-- ==== Sys2Proof/Word.lean ====
section
/-! DEFINITION. The plain number types of the controller's quantities (00_scope, "Quantities and units"). -/

namespace Sys2Proof

/-- A time or a moment in microseconds. -/
abbrev Micros := Nat

/-- A power in half decibels: detector readings and thresholds are given to 0.5 dB. -/
abbrev HalfDb := Int

/-- A loss in centi-decibels. -/
abbrev Cdb := Nat

end Sys2Proof
end

