-- ==== Sys2Proof/Config.lean ====
section
/-! DEFINITION. What an implementation fixes, and the free values the spec leaves open (each an opaque constant: nothing can
evaluate it). -/

namespace Sys2Proof.Config

/-- The wave gap of R59, µs. -/
def waveGap : Micros := 2000
/-- How long a report holds before its reading is counted (R19), µs. -/
def steadyTime : Micros := 2000
/-- The release interval of R89, µs. -/
def releaseInterval : Micros := 1000
/-- The hold limit of R103, µs. -/
def holdLimit : Micros := 500000
/-- Start-up takes 200 ms (R210). -/
def startUpTime : Micros := 200000
/-- The flush clock's run, 60 s (R205). -/
def flushDelay : Micros := 60000000
/-- A flush write takes 20 ms (R205). -/
def flushWrite : Micros := 20000
/-- The shortest and the longest save write (R203). -/
def saveShortest : Micros := 80000
def saveLongest : Micros := 400000
/-- Depth bound of a chain of steps that takes no time. DEDUCED from R133 and R147: a pass index below 65,536, at most 256
steps a pass and at most five instant transitions a step give fewer than 2^27 (log entry 9). -/
def chainFuel : Nat := 134217728

/-- FREE VALUE (log entry 10): whether a power exactly halfway between two readings takes the upper one (R84). -/
opaque powerTieUp : Int → Bool
/-- FREE VALUE (log entry 10): whether a voltage exactly halfway between two readings takes the upper one (R98). -/
opaque voltageTieUp : Int → Bool
/-- FREE VALUE (log entry 11): where a save of tables neither empty nor full falls within 80 ms to 400 ms (R203), by the
number of writes begun. -/
opaque saveSpread : Nat → Nat
/-- FREE VALUE (log entry 11): whether a save's read-back matches (R204), by the number of writes begun. -/
opaque saveReadBack : Nat → Bool
/-- FREE VALUE (log entry 11): whether a flush's read-back matches (R206), by the number of writes begun. -/
opaque flushReadBack : Nat → Bool
/-- FREE VALUE (log entry 12): which upper-case letter the hardware revision is (R199). -/
opaque hardwareLetter : Fin 26
/-- FREE VALUES (log entry 12): the two numbers of the firmware revision (R199). -/
opaque firmwareMajor : Nat
opaque firmwareMinor : Nat

end Sys2Proof.Config
end

