-- ==== Sys2Proof/Machine/Table.lean ====
section
/-! DEFINITION. Tables keyed by number: nodes, elements, routes, steps and lists. A table is a list of key and record in
strictly rising key order, so that equal tables are equal data. -/

namespace Sys2Proof.Machine

/-- A table keyed by number: a key that is not listed is undefined. -/
abbrev Table (α : Type) := List (Nat × α)

/-- The record of a key, absent when the key is undefined. -/
def tget {α : Type} : Table α → Nat → Option α
  | [], _ => none
  | (k, v) :: t, j => if k = j then some v else tget t j

/-- Define or redefine a key. -/
def tset {α : Type} : Table α → Nat → α → Table α
  | [], j, x => [(j, x)]
  | (k, v) :: t, j, x =>
    if j < k then (j, x) :: (k, v) :: t
    else if j = k then (j, x) :: t
    else (k, v) :: tset t j x

/-- Make a key undefined. -/
def tdel {α : Type} (t : Table α) (j : Nat) : Table α :=
  t.filter (fun kv => kv.1 != j)

/-- Change a key's record when it has one. -/
def tmod {α : Type} (t : Table α) (j : Nat) (f : α → α) : Table α :=
  t.map (fun kv => if kv.1 = j then (kv.1, f kv.2) else kv)

/-- The canonical form: keys strictly rising. -/
abbrev tsorted {α : Type} (t : Table α) : Prop :=
  List.Pairwise (fun a b => a.1 < b.1) t

/-- The lowest key whose record satisfies a test (tables are in rising key order). -/
def tfind {α : Type} (t : Table α) (p : Nat → α → Bool) : Option Nat :=
  (t.find? (fun kv => p kv.1 kv.2)).map (·.1)

end Sys2Proof.Machine
end

