-- ==== Sys2Proof/Syntax.lean ====
section
/-! DEFINITION. The commands: one constructor of `Instr` per row of spec/opcode_table.json, with the argument forms of the
command link (R183). -/

namespace Sys2Proof

/-- The letters of an identifier (00_scope, "Identifiers"). Routes and settle profiles share `p`. -/
inductive IdKind where
  | e | n | p | s | l | d | b | ti | to
deriving DecidableEq, Repr

/-- The keywords and enumerated values an argument may be. `other` is a word that no rule lists. -/
inductive Kw where
  | instr | ant | fix | load | inner
  | none | sense | handshake | both
  | sp2 | sp3 | sp4 | sp5 | sp6 | sp7 | sp8 | xfer
  | eml | emf | ss
  | force | pre | all
  | link | linkp | unlink | step | lim | clr | e | n
  | pace | soft | auto
  | a | b | pat
  | route | ready | atEnd | rep
  | latch | drop | halt
  | rise | fall | off | narrow | wide | on
  | rate | gated | retrig
  | seq | wind | dwell
  | other
deriving DecidableEq, Repr

/-- One part of an argument, read by its form (R183). `num` is digits alone, `dec` a number with a sign or a fraction
(value `mant / 10^scale`, negative when `neg`), `bad` any text of no form. -/
inductive Atom where
  | ident (k : IdKind) (n : Nat)
  | num (n : Nat)
  | dec (neg : Bool) (mant scale : Nat)
  | word (w : Kw)
  | hyphen
  | bad
deriving DecidableEq, Repr

/-- An argument: one part, or two joined by a colon (R183, compound value). -/
inductive Arg where
  | one (a : Atom)
  | pair (a b : Atom)
deriving DecidableEq, Repr

/-- Whether a record was addressed to this station or broadcast (R181, R182). -/
inductive Via where
  | addressed | broadcast
deriving DecidableEq, Repr

/-- The four link speeds (R179). -/
inductive Baud where
  | b19200 | b57600 | b115200 | b230400
deriving DecidableEq, Repr

/-- The strap values read at a start (R179, R199, R8). Bit i of `fitted` and `sensed` is bank Bi. -/
structure Straps where
  addr   : Fin 32
  baud   : Baud
  fitted : BitVec 8
  sensed : BitVec 8
deriving DecidableEq, Repr

/-- One constructor per row of spec/opcode_table.json. A command of the link stands for the interpretation of its record
(R185); the rest are the events of the table. -/
inductive Instr where
  | recordReceived
  | linkBreak
  | badRecord
  | replyTransmitStart
  | replySent
  | node (args : List Arg)
  | nodeQuery (args : List Arg)
  | elem (args : List Arg)
  | elemQuery (args : List Arg)
  | posn (args : List Arg)
  | path (args : List Arg)
  | pathQuery (args : List Arg)
  | pdel (args : List Arg)
  | link (args : List Arg)
  | unlink (args : List Arg)
  | unlinkAll
  | heldQuery (args : List Arg)
  | safe (via : Via)
  | pulse (args : List Arg)
  | pulseQuery (args : List Arg)
  | setl (args : List Arg)
  | setlQuery (args : List Arg)
  | bank (args : List Arg)
  | bankQuery (args : List Arg)
  | planQuery (kw : Kw) (args : List Arg)
  | guard (args : List Arg)
  | rfth (args : List Arg)
  | mute (args : List Arg)
  | muteQuery (args : List Arg)
  | senseQuery (args : List Arg)
  | supplyQuery (args : List Arg)
  | wearLim (args : List Arg)
  | wearClr (args : List Arg)
  | wearQuery (args : List Arg)
  | freq (args : List Arg)
  | freqQuery (args : List Arg)
  | lossE (args : List Arg)
  | lossN (args : List Arg)
  | lossQuery (kw : Option Kw) (args : List Arg)
  | step (args : List Arg)
  | stepQuery (args : List Arg)
  | sdel (args : List Arg)
  | list (args : List Arg)
  | listQuery (args : List Arg)
  | ldel (args : List Arg)
  | arm (args : List Arg)
  | go (via : Via)
  | halt (via : Via) (args : List Arg)
  | resume (args : List Arg)
  | abort (args : List Arg)
  | seqQuery (args : List Arg)
  | trin (args : List Arg)
  | trinQuery (args : List Arg)
  | trout (args : List Arg)
  | troutQuery (args : List Arg)
  | pace (args : List Arg)
  | paceQuery (args : List Arg)
  | snap (args : List Arg)
  | snapQuery (args : List Arg)
  | noteQuery (args : List Arg)
  | attn (args : List Arg)
  | statQuery (args : List Arg)
  | identQuery (args : List Arg)
  | save (args : List Arg)
  | load (args : List Arg)
  | storeQuery (args : List Arg)
  | reset (via : Via)
  | quietChange (high : Bool)
  | detectorReading (d : Fin 8) (centiDbm : Int)
  | muteTimeout
  | releaseIntervalEnd
  | waveStart (b : Fin 8)
  | waveEnd (b : Fin 8)
  | retryStart (b : Fin 8)
  | elementReady (e : Nat)
  | supplyChange (centivolts : Int)
  | holdLimitExpiry
  | senseReportChange (b slot : Fin 8) (closed : BitVec 8)
  | readingCounted (e : Nat)
  | triggerInputChange (i : Fin 4) (high : Bool)
  | qualificationEnd (i : Fin 4)
  | paceExpiry
  | windowClose
  | dwellExpiry
  | outputPulseEnd (o : Fin 4)
  | flushClockExpiry
  | saveComplete (readBack : Bool)
  | flushComplete (readBack : Bool)
  | commandStart
  | powerStart
  | lineStart
  | resetRelease
  | startUpComplete (straps : Straps)
  | commandPairCharacter (code : BitVec 8) (framing : Bool)
  | replyPairCharacter
  | powerLoss
deriving DecidableEq, Repr

/-- How the record a command stands for reached the station. Only SAFE, GO, HALT and RESET may be broadcast (R182). -/
def Instr.via : Instr → Via
  | .safe v => v
  | .go v => v
  | .halt v _ => v
  | .reset v => v
  | _ => .addressed

end Sys2Proof
end

