-- ==== Sys2Proof/Machine/State.lean ====
section
/-! DEFINITION. The state of the controller as plain data, and the state after reset. INVENTORY.md lists every field with the
rule that names it. -/

namespace Sys2Proof.Machine

/-! ### Replies and notices (chapters 9 and 10) -/

/-- One piece of a reply value or a notice field. -/
inductive Piece where
  | num (n : Nat)
  | ident (k : IdKind) (n : Nat)
  | word (w : String)
  | half (v : HalfDb)
  | sep (c : Char)
deriving DecidableEq, Repr

/-- One value: its pieces in the order written; the empty value is written as a hyphen. -/
abbrev Val := List Piece

/-- The refusal codes of R191. -/
inductive Code where
  | badForm | range | noId | inUse | full | continuity | conflict | claimed | qfull | seqActive | busy | state | faulted
deriving DecidableEq, Repr

/-- The eighteen notice kinds of chapter 10, section 10.2. -/
inductive NoticeKind where
  | start | done | fail | broken | drift | efault | hot | supply | life | step | early | late | triglost | listend | halt
  | store | overrun | overflow
deriving DecidableEq, Repr

/-- A notice record (R192): an absent subject or detail is the empty value. -/
structure Notice where
  kind    : NoticeKind
  time    : Nat
  subject : Val
  detail  : Val
deriving DecidableEq, Repr

/-- A reply (09_the_command_link, 9.2): `OK` with values, `NAK` with code and detail, or the two answers to `NOTE?`. -/
inductive Reply where
  | ok (vals : List Val)
  | nak (c : Code) (detail : Val)
  | note (n : Notice)
  | noNote
deriving DecidableEq, Repr

/-! ### Fabric Table (chapter 1) -/

/-- The five node kinds of R1. -/
inductive NodeKind where
  | instr | ant | fix | load | inner
deriving DecidableEq, Repr

/-- The four guard modes of R82; `open_` is NONE. -/
inductive GuardMode where
  | open_ | sense | handshake | both
deriving DecidableEq, Repr

/-- A node record (R1); the wiring list is derived from the element records. -/
structure Node where
  kind   : NodeKind
  det    : Option (Fin 8)
  guard  : Option GuardMode
  losses : List Cdb
deriving DecidableEq, Repr

/-- The kinds of element of R5. -/
inductive ElemKind where
  | sp2 | sp3 | sp4 | sp5 | sp6 | sp7 | sp8 | xfer
deriving DecidableEq, Repr

/-- The three technologies. -/
inductive Tech where
  | eml | emf | ss
deriving DecidableEq, Repr

/-- What `ELEM` supplies (R5). A terminal is a node or unwired. -/
structure ElemDef where
  kind  : ElemKind
  tech  : Tech
  bank  : Fin 8
  slot  : Fin 8
  terms : List (Option Nat)
  safe  : Nat
deriving DecidableEq, Repr

/-- The wear fields of an element (R106). -/
structure Wear where
  life   : Nat
  hot    : Nat
  limit  : Nat
  warned : Bool
deriving DecidableEq, Repr

/-- A sense reading (R19): a position, or NONE. -/
inductive Reading where
  | pos (p : Nat)
  | nothing
deriving DecidableEq, Repr

/-- The state an element held just before a move (R14). -/
inductive Former where
  | idle | unknown | fault
deriving DecidableEq, Repr

/-- The state of an element (R5); MOVING carries the target field. -/
inductive ElemState where
  | idle | unknown | moving (target : Nat) (former : Former) | fault
deriving DecidableEq, Repr

/-- An element record (R5). `pos` absent is UNKNOWN. `sense` is present exactly for a sensed element (R8). `counting` is a
report not yet counted and the moment it will be (R19). -/
structure Element where
  d        : ElemDef
  losses   : List (List Cdb)
  wear     : Wear
  pos      : Option Nat
  st       : ElemState
  sense    : Option Reading
  counting : Option (Reading × Micros)
deriving DecidableEq, Repr

/-! ### Route Table (chapter 2) -/

/-- The three settle profiles. -/
inductive Profile where
  | p1 | p2 | p3
deriving DecidableEq, Repr

/-- What `PATH` supplies (R26). -/
structure RouteDef where
  src     : Nat
  dst     : Nat
  hops    : List (Nat × Nat)
  profile : Profile
deriving DecidableEq, Repr

/-- A hop connection (R27): the connection index and the terminal by which the route enters (0 is C or T1). -/
structure HopConn where
  conn  : Nat
  entry : Nat
deriving DecidableEq, Repr

inductive RouteState where
  | idle | pending | held
deriving DecidableEq, Repr

/-- The causes of failed ops, broken routes and halts. -/
inductive Cause where
  | faulted | guard | efault | supply | drift | force | safe
deriving DecidableEq, Repr

/-- The last outcome of a route (R26). -/
inductive LinkOutcome where
  | ok | failed (c : Cause) | broken (c : Cause) | released | preempted (q : Nat) | aborted
deriving DecidableEq, Repr

inductive MarkKind where
  | unlink | pre (q : Nat) | force
deriving DecidableEq, Repr

/-- A release mark together with the serial number of the plan that carries it (R26). -/
structure Mark where
  kind : MarkKind
  plan : Nat
deriving DecidableEq, Repr

/-- A route record (R26, R27). -/
structure Route where
  d       : RouteDef
  nodes   : List Nat
  conns   : List HopConn
  st      : RouteState
  outcome : Option LinkOutcome
  mark    : Option Mark
deriving DecidableEq, Repr

/-! ### Plans and the plan in flight (chapters 3, 4, 5) -/

inductive OpKind where
  | link | linkp | unlink
deriving DecidableEq, Repr

/-- An op of a step (R123). -/
structure StepOp where
  kind  : OpKind
  route : Nat
deriving DecidableEq, Repr

/-- An op of a plan (R50); `satisfied` marks a link op whose route was held at submission (R142). -/
structure PlanOp where
  kind      : OpKind
  route     : Nat
  satisfied : Bool
deriving DecidableEq, Repr

inductive PlanKind where
  | link | unlink | posn | step | safe
deriving DecidableEq, Repr

/-- The positioning of a POSN plan (R50). -/
structure Positioning where
  elem  : Nat
  pos   : Nat
  force : Bool
deriving DecidableEq, Repr

/-- A plan (R50). `origin` is the step of a STEP plan; `profile` absent is ROUTE. -/
structure Plan where
  id       : Nat
  kind     : PlanKind
  origin   : Option Nat
  ops      : List PlanOp
  releases : List (Nat × MarkKind)
  posn     : Option Positioning
  profile  : Option Profile
deriving DecidableEq, Repr

inductive Phase where
  | release | check | plan | guard | move | cut | done
deriving DecidableEq, Repr

/-- How far an element of a move set has got (R17, R60 to R65). `retry` tells the retry from the first pulse. -/
inductive Progress where
  | waiting
  | pulsing (retry : Bool)
  | settling (retry : Bool) (readyAt : Micros)
  | retryDue (since : Micros)
  | resolved
deriving DecidableEq, Repr

/-- An entry of a move set (R50, R56). `charged` says that the present exposure has been counted hot (R95). -/
structure Move where
  elem    : Nat
  target  : Nat
  profile : Profile
  prog    : Progress
  charged : Bool
deriving DecidableEq, Repr

/-- The waves of one bank in the plan in flight (R59): the running wave's end, and the end of the gap after the last wave. -/
structure BankRun where
  endsAt : Option Micros
  freeAt : Micros
deriving DecidableEq, Repr

/-- A port of a guard set with the mode and detector copied at GUARD entry (R87). -/
structure GuardPort where
  node : Nat
  mode : GuardMode
  det  : Option (Fin 8)
deriving DecidableEq, Repr

/-- A guard record (R87). `watch` lists the sense detectors with their ports; `expiry` is the mute timeout's moment. -/
structure GuardRec where
  ports       : List GuardPort
  handshake   : Bool
  watch       : List (Fin 8 × Nat)
  expiry      : Micros
  hotReported : Bool
deriving DecidableEq, Repr

/-- The plan in flight (R50). -/
structure Flight where
  plan        : Plan
  phase       : Phase
  started     : Micros
  moves       : List Move
  guard       : GuardRec
  checkFailed : Bool
  guardFailed : Bool
  holdExpired : Bool
  holdLimit   : Option Micros
  banks       : Vector BankRun 8
deriving DecidableEq, Repr

/-- What a slot's drive lines carry (R6, R60). -/
inductive SlotDrive where
  | off | coil (p : Nat) | pullIn | hold | bias (p : Nat)
deriving DecidableEq, Repr

/-- The Actuation Engine: the Plan Queue and the drive of slot s of bank b at index 8b + s. -/
structure Engine where
  waiting : List Plan
  flight  : Option Flight
  nextId  : Nat
  drive   : Vector SlotDrive 64
deriving DecidableEq, Repr

/-! ### Guard Unit and Supply Monitor -/

/-- A detector's reading and RF state (R84); the threshold is a setting. -/
structure Detector where
  reading : HalfDb
  present : Bool
deriving DecidableEq, Repr

/-- The Guard Unit (chapter 4). `carry` is a hold outlasting its plan while the next plan is decided (R91). -/
structure GuardUnit where
  dets       : Vector Detector 8
  quiet      : Bool
  planHold   : Bool
  safeHold   : Bool
  carry      : Bool
  releaseEnd : Option Micros
deriving DecidableEq, Repr

inductive SupplyState where
  | normal | low | cut
deriving DecidableEq, Repr

/-- The supply reading in tenths of a volt and the supply state (R98). -/
structure Supply where
  reading : Nat
  st      : SupplyState
deriving DecidableEq, Repr

/-! ### Step and List Tables, settings kept in the image -/

/-- An advance source (R123, R136). -/
inductive Source where
  | ti (i : Fin 4) | pace | soft | auto
deriving DecidableEq, Repr

inductive DwellSel where
  | a | b | pat
deriving DecidableEq, Repr

/-- An output action (R123): the output, and whether it fires at plan ready (true) or at the step's end. -/
structure OutAction where
  out     : Fin 4
  atReady : Bool
deriving DecidableEq, Repr

/-- A step record (R123); `ovr` absent is ROUTE. -/
structure StepRec where
  ops    : List StepOp
  src    : Source
  dwellA : Micros
  dwellB : Micros
  sel    : DwellSel
  ovr    : Option Profile
  act    : Option OutAction
  rep    : Bool
deriving DecidableEq, Repr

/-- A list record (R129). `latch` tells policy LATCH from DROP, `lateForce` late policy FORCE from HALT. -/
structure ListRec where
  first     : Nat
  last      : Nat
  passes    : Nat
  pattern   : Nat
  latch     : Bool
  lateForce : Bool
  early     : Micros
  late      : Micros
  freq      : Option Nat
deriving DecidableEq, Repr

/-- Settle times of one technology by profile (R61). -/
structure SettleRow where
  p1 : Micros
  p2 : Micros
  p3 : Micros
deriving DecidableEq, Repr

/-- The settle table (R61). -/
structure SettleTable where
  eml : SettleRow
  emf : SettleRow
  ss  : SettleRow
deriving DecidableEq, Repr

inductive Filter where
  | off | narrow | wide
deriving DecidableEq, Repr

/-- A trigger input's setting (R156, R157). -/
structure InSetting where
  rise   : Bool
  filter : Filter
deriving DecidableEq, Repr

inductive PaceMode where
  | rate | gated | retrig
deriving DecidableEq, Repr

/-- The pace setting (R164). Count 0 stands for 16,777,216. -/
structure PaceSetting where
  mode  : PaceMode
  count : Nat
  gate  : Option (Fin 4)
deriving DecidableEq, Repr

/-- Every setting and table of R201 but the nodes, elements and routes. -/
structure Settings where
  pulseEml  : Micros
  pulseEmf  : Micros
  settle    : SettleTable
  waveSize  : Vector Nat 8
  threshold : Vector HalfDb 8
  mute      : Micros
  grid      : List Nat
  steps     : Table StepRec
  lists     : Table ListRec
  inputs    : Vector InSetting 4
  widths    : Vector Micros 4
  pace      : PaceSetting
  attn      : Bool
deriving DecidableEq, Repr

/-- The defaults a start with a bad image takes (R61, R70, R72, R84, R90, R122, R158, R163, R169, R197). -/
def Settings.defaults : Settings where
  pulseEml := 15000
  pulseEmf := 20000
  settle := ⟨⟨5000, 10000, 25000⟩, ⟨5000, 10000, 25000⟩, ⟨10, 50, 200⟩⟩
  waveSize := Vector.replicate 8 4
  threshold := Vector.replicate 8 (-20)
  mute := 100000
  grid := [1000]
  steps := []
  lists := []
  inputs := Vector.replicate 4 ⟨true, .narrow⟩
  widths := Vector.replicate 4 1000
  pace := ⟨.rate, 10000, none⟩
  attn := true

/-! ### Sequencer and timers (chapters 7 and 8) -/

inductive Due where
  | halt | abort
deriving DecidableEq, Repr

inductive ResumePoint where
  | wait | dwell | dwellRemaining | retry
deriving DecidableEq, Repr

/-- The states of the sequencer but IDLE (R133). A SWITCHING record whose plan is not yet submitted has `submitted`
false; that lasts only within a command. -/
inductive SeqMode where
  | waiting
  | switching (submitted : Bool) (due : Option Due)
  | dwell
  | halted (resume : ResumePoint)
deriving DecidableEq, Repr

/-- The sequencer record while a list is armed (R133). The pending trigger carries its arrival time in ms. -/
structure Run where
  list    : Nat
  step    : Nat
  pass    : Nat
  mode    : SeqMode
  trigger : Option (Source × Nat)
  chosen  : Option Micros
deriving DecidableEq, Repr

/-- A trigger input: raw level, filtered level, end of a qualification in progress (R156). -/
structure TrigIn where
  raw   : Bool
  level : Bool
  qual  : Option Micros
deriving DecidableEq, Repr

/-- An output's drive (R159); a pulse runs to a moment, or is frozen in HALTED with its time remaining (R162). -/
inductive OutDrive where
  | off | pulse (endsAt : Micros) | frozen (remaining : Micros) | level (step : Nat)
deriving DecidableEq, Repr

/-- The phase of the pace timer with its remaining count (R164): COUNTING holds the moment of the next expiry. -/
inductive PacePhase where
  | stopped | counting (expiresAt : Micros) | held (remaining : Nat) | ready
deriving DecidableEq, Repr

/-- The pace timer's running record (R164). -/
structure PaceRec where
  phase  : PacePhase
  loaded : Nat
  pend   : Bool
deriving DecidableEq, Repr

/-- The window timer (R171). -/
inductive WindowTimer where
  | running (since : Micros) | stopped (elapsed : Micros)
deriving DecidableEq, Repr

/-- The dwell timer (R172). -/
inductive DwellTimer where
  | stopped | running (endsAt : Micros) | frozen (remaining : Micros)
deriving DecidableEq, Repr

/-- The sequencer's state as it is reported (R153, R173, R198). -/
inductive SeqState where
  | idle | waiting | switching | dwell | halted
deriving DecidableEq, Repr

/-- The SEQ latch (R173). -/
structure SeqSnap where
  st   : SeqState
  step : Option Nat
  pass : Option Nat
deriving DecidableEq, Repr

/-- The four snapshot latches (R173); the PACE latch holds the flag and the remaining count. -/
structure Latches where
  seq   : Option SeqSnap
  pace  : Option (Bool × Nat)
  wind  : Option Micros
  dwell : Option Micros
deriving DecidableEq, Repr

/-- The Timer and Trigger Unit (chapter 8). -/
structure Timers where
  ins    : Vector TrigIn 4
  outs   : Vector OutDrive 4
  pace   : PaceRec
  window : WindowTimer
  dwell  : DwellTimer
  latch  : Latches
deriving DecidableEq, Repr

/-! ### Command Link (chapter 9) -/

/-- The receive state (R180): inside a record, the characters kept with their framing errors, the length count and the bad
flag. -/
inductive Receive where
  | outside
  | inside (kept : List (Char × Bool)) (count : Nat) (bad : Bool)
deriving DecidableEq, Repr

/-- Where the final flush asked for by `RESET` stands (R209): waiting for the store, being made, ended. -/
inductive FinalFlush where
  | waiting | running | ended
deriving DecidableEq, Repr

/-- The Command Link. `sending` is the moment the oldest reply began transmission, `lastChar` the end of the last character
on the reply pair, `stop` the interpreter stop of R189. -/
structure Link where
  receive  : Receive
  inbound  : List Instr
  replies  : List Reply
  sending  : Option Micros
  lastChar : Micros
  overrun  : Bool
  overruns : Nat
  stop     : Option FinalFlush
deriving DecidableEq, Repr

/-! ### Image Store (chapter 11) -/

/-- What the image holds of an element (R201). -/
structure ElemImage where
  d      : ElemDef
  losses : List (List Cdb)
  wear   : Wear
deriving DecidableEq, Repr

/-- The tables and settings of R201. -/
structure Tables where
  nodes    : Table Node
  elems    : Table ElemImage
  routes   : Table RouteDef
  settings : Settings
deriving DecidableEq, Repr

/-- A valid table section (R202): its tables and its save number. -/
structure TableSection where
  tables : Tables
  saveNo : Nat
deriving DecidableEq, Repr

/-- A valid wear slot (R202). -/
structure WearSlot where
  wear    : Table Wear
  saveNo  : Nat
  flushNo : Nat
deriving DecidableEq, Repr

/-- The non-volatile memory (R202). A section or slot that fails its check is absent. `saveNo` is the last save number given
out (log entry 13). `writes` is the model's own count of writes begun, which the free values of log entry 11 are read by. -/
structure Image where
  table  : Option TableSection
  slotA  : Option WearSlot
  slotB  : Option WearSlot
  saveNo : Nat
  writes : Nat
deriving DecidableEq, Repr

/-- The store state with the write in progress (R203, R205). `toB` names the slot a flush writes. -/
inductive StoreState where
  | idle
  | saving (copy : Tables) (since : Micros)
  | flushing (toB : Bool) (copy : WearSlot) (since : Micros)
deriving DecidableEq, Repr

inductive ImageCond where
  | good | bad | writing
deriving DecidableEq, Repr

/-- The flush clock (R205): absent, running to its expiry, or expired with the flush waiting for the store. -/
inductive FlushClock where
  | absent | running (expiry : Micros) | due
deriving DecidableEq, Repr

/-- The Image Store (chapter 11). `found` is the validity found at start, true for GOOD. -/
structure Store where
  image : Image
  st    : StoreState
  cond  : ImageCond
  found : Bool
  mark  : Bool
  clock : FlushClock
deriving DecidableEq, Repr

/-! ### The whole state -/

inductive StartKind where
  | power | line | command
deriving DecidableEq, Repr

/-- Where the controller stands in its starts (R209, R210). -/
inductive Life where
  | running
  | starting (k : StartKind) (endsAt : Micros)
  | held (k : StartKind)
  | unpowered
deriving DecidableEq, Repr

/-- The state of one CPC-64. -/
structure State where
  pending   : List Instr
  now       : Micros
  life      : Life
  resetLine : Bool
  straps    : Straps
  nodes     : Table Node
  elems     : Table Element
  senseLines : Vector (BitVec 8) 64
  routes    : Table Route
  held      : List Nat
  settings  : Settings
  engine    : Engine
  guard     : GuardUnit
  supply    : Supply
  seq       : Option Run
  timers    : Timers
  link      : Link
  notices   : List Notice
  store     : Store
deriving DecidableEq, Repr

/-- Why a command could stop the machine: never. The spec gives the controller no fault stop (INVENTORY.md, "Faults"). Safe. -/
inductive Fault where
deriving DecidableEq, Repr

/-- Why a command has no meaning. Only `exec` could raise `notModelled`, for a row without a meaning, and no row is without
one. Safe. -/
inductive Refusal where
  | notModelled (mnemonic : String)
deriving DecidableEq, Repr

/-- The straps of the model's reset. DESIGN CHOICE (log entry 5): the spec gives no strap values. -/
def resetStraps : Straps := ⟨1, .b115200, 0xFF#8, 0#8⟩

/-- No wave of the bank has run. -/
def BankRun.fresh : BankRun := ⟨none, 0⟩

/-- A guard record that watches nothing. -/
def GuardRec.empty : GuardRec := ⟨[], false, [], 0, false⟩

/-- The Engine with no plan and no drive (R24, R81). -/
def Engine.blank : Engine := ⟨[], none, 0, Vector.replicate 64 .off⟩

/-- Nothing latched. -/
def Latches.empty : Latches := ⟨none, none, none, none⟩

/-- The link at the end of start-up (R190). -/
def Link.blank : Link := ⟨.outside, [], [], none, 0, false, 0, none⟩

/-- Memory never written (R202). -/
def Image.blank : Image := ⟨none, none, none, 0, 0⟩

/-- The store after a start that found the image bad (R202, R210). -/
def Store.blank : Store := ⟨.blank, .idle, .bad, false, false, .absent⟩

/-- The state right after reset (log entry 4): the first POWER start is complete and found memory never written, so every
table is empty, every setting is at its default, and the START notice is the one entry of the queue (R202, R210, R211). The
levels of the inputs are DESIGN CHOICE (log entry 6). -/
def State.reset : State where
  pending := []
  now := 0
  life := .running
  resetLine := false
  straps := resetStraps
  nodes := []
  elems := []
  senseLines := Vector.replicate 64 0#8
  routes := []
  held := []
  settings := .defaults
  engine := .blank
  guard := ⟨Vector.replicate 8 ⟨-100, false⟩, false, false, false, false, none⟩
  supply := ⟨240, .normal⟩
  seq := none
  timers := ⟨Vector.replicate 4 ⟨false, false, none⟩, Vector.replicate 4 .off, ⟨.stopped, 10000, false⟩, .stopped 0, .stopped, .empty⟩
  link := .blank
  notices := [⟨.start, 0, [.word "POWER"], [.word "BAD"]⟩]
  store := .blank

end Sys2Proof.Machine
end

