-- ==== Sys2Proof/Machine/Text.lean ====
section
/-! DEFINITION. The words of the command link: keyword texts, enumerated values, and the characters of a reply (chapter 9,
sections 9.2 and 9.3). -/

namespace Sys2Proof.Machine

/-- The identifier's letters (00_scope, "Identifiers"). -/
def idText : IdKind → String
  | .e => "E" | .n => "N" | .p => "P" | .s => "S" | .l => "L" | .d => "D" | .b => "B" | .ti => "TI" | .to => "TO"

def nodeKindText : NodeKind → String
  | .instr => "INSTR" | .ant => "ANT" | .fix => "FIX" | .load => "LOAD" | .inner => "INNER"

def guardModeText : GuardMode → String
  | .open_ => "NONE" | .sense => "SENSE" | .handshake => "HANDSHAKE" | .both => "BOTH"

def elemKindText : ElemKind → String
  | .sp2 => "SP2" | .sp3 => "SP3" | .sp4 => "SP4" | .sp5 => "SP5" | .sp6 => "SP6" | .sp7 => "SP7" | .sp8 => "SP8"
  | .xfer => "XFER"

def techText : Tech → String
  | .eml => "EML" | .emf => "EMF" | .ss => "SS"

def causeText : Cause → String
  | .faulted => "FAULTED" | .guard => "GUARD" | .efault => "EFAULT" | .supply => "SUPPLY" | .drift => "DRIFT"
  | .force => "FORCE" | .safe => "SAFE"

def codeText : Code → String
  | .badForm => "SYNTAX" | .range => "RANGE" | .noId => "NO_ID" | .inUse => "IN_USE" | .full => "FULL"
  | .continuity => "CONTINUITY" | .conflict => "CONFLICT" | .claimed => "CLAIMED" | .qfull => "QFULL"
  | .seqActive => "SEQ_ACTIVE" | .busy => "BUSY" | .state => "STATE" | .faulted => "FAULTED"

/-- The fixed number of each refusal code (R191). -/
def codeNumber : Code → Nat
  | .badForm => 1 | .range => 2 | .noId => 3 | .inUse => 4 | .full => 5 | .continuity => 6 | .conflict => 7
  | .claimed => 8 | .qfull => 9 | .seqActive => 10 | .busy => 11 | .state => 12 | .faulted => 13

def noticeText : NoticeKind → String
  | .start => "START" | .done => "DONE" | .fail => "FAIL" | .broken => "BROKEN" | .drift => "DRIFT" | .efault => "EFAULT"
  | .hot => "HOT" | .supply => "SUPPLY" | .life => "LIFE" | .step => "STEP" | .early => "EARLY" | .late => "LATE"
  | .triglost => "TRIGLOST" | .listend => "LISTEND" | .halt => "HALT" | .store => "STORE" | .overrun => "OVERRUN"
  | .overflow => "OVERFLOW"

def supplyText : SupplyState → String
  | .normal => "NORMAL" | .low => "LOW" | .cut => "CUT"

def seqStateText : SeqState → String
  | .idle => "IDLE" | .waiting => "WAITING" | .switching => "SWITCHING" | .dwell => "DWELL" | .halted => "HALTED"

def planKindText : PlanKind → String
  | .link => "LINK" | .unlink => "UNLINK" | .posn => "POSN" | .step => "STEP" | .safe => "SAFE"

def phaseText : Phase → String
  | .release => "RELEASE" | .check => "CHECK" | .plan => "PLAN" | .guard => "GUARD" | .move => "MOVE" | .cut => "CUT"
  | .done => "DONE"

def opKindText : OpKind → String
  | .link => "LINK" | .linkp => "LINKP" | .unlink => "UNLINK"

def startText : StartKind → String
  | .power => "POWER" | .line => "LINE" | .command => "COMMAND"

def onOff (b : Bool) : String := if b then "ON" else "OFF"
def highLow (b : Bool) : String := if b then "HIGH" else "LOW"
def goodBad (b : Bool) : String := if b then "GOOD" else "BAD"

def baudRate : Baud → Nat
  | .b19200 => 19200 | .b57600 => 57600 | .b115200 => 115200 | .b230400 => 230400

/-! ### Building values -/

def vNum (n : Nat) : Val := [.num n]
def vWord (w : String) : Val := [.word w]
def vId (k : IdKind) (n : Nat) : Val := [.ident k n]
def vElem (e : Nat) : Val := vId .e e
def vNode (n : Nat) : Val := vId .n n
def vRoute (p : Nat) : Val := vId .p p
def vStep (n : Nat) : Val := vId .s n
def vFlag (w : String) (b : Bool) : Val := if b then vWord w else []

/-- Several values joined into one by a separator. -/
def vJoin (c : Char) : List Val → Val
  | [] => []
  | [v] => v
  | v :: vs => v ++ .sep c :: vJoin c vs

def vProfile : Profile → Val
  | .p1 => vId .p 1 | .p2 => vId .p 2 | .p3 => vId .p 3

/-- A recorded position, `UNKNOWN` when there is none (R13). -/
def vPos : Option Nat → Val
  | some p => vNum p
  | none => vWord "UNKNOWN"

def vReading : Reading → Val
  | .pos p => vNum p
  | .nothing => vWord "NONE"

def vSource : Source → Val
  | .ti i => vId .ti i
  | .pace => vWord "PACE"
  | .soft => vWord "SOFT"
  | .auto => vWord "AUTO"

def vOpt {α : Type} (f : α → Val) : Option α → Val
  | some x => f x
  | none => []

/-- Banks joined by plus signs in ascending order (R199). -/
def vBanks (m : BitVec 8) : Val :=
  vJoin '+' (((List.range 8).filter (fun i => m.getLsbD i)).map (vId .b))

/-! ### The characters of a reply -/

def natChars (n : Nat) : List Char := Nat.toDigits 10 n

/-- Half decibels with one fractional digit and a minus sign when below zero (R85). -/
def halfChars (v : HalfDb) : List Char :=
  (if v < 0 then ['-'] else []) ++ natChars (v.natAbs / 2) ++ ['.', if v.natAbs % 2 = 0 then '0' else '5']

def Piece.chars : Piece → List Char
  | .num n => natChars n
  | .ident k n => (idText k).toList ++ natChars n
  | .word w => w.toList
  | .half v => halfChars v
  | .sep c => [c]

/-- A value's characters; an absent value is a hyphen. -/
def valChars : Val → List Char
  | [] => ['-']
  | v => v.flatMap Piece.chars

/-- Values separated by commas. -/
def commaChars : List (List Char) → List Char
  | [] => []
  | [v] => v
  | v :: vs => v ++ ',' :: commaChars vs

/-- A two-digit address. -/
def addrChars (a : Nat) : List Char :=
  (if a < 10 then ['0'] else []) ++ natChars a

/-- What follows the head of a reply (9.2). -/
def Reply.body : Reply → List Char
  | .ok [] => ['O', 'K']
  | .ok vals => ['O', 'K', ' '] ++ commaChars (vals.map valChars)
  | .nak c [] => "NAK ".toList ++ (codeText c).toList
  | .nak c detail => "NAK ".toList ++ (codeText c).toList ++ ',' :: valChars detail
  | .note n =>
      "OK NOTE ".toList ++
        commaChars [(noticeText n.kind).toList, natChars n.time, valChars n.subject, valChars n.detail]
  | .noNote => "OK NONE".toList

/-- A whole reply record, from `=` to CR (9.2). -/
def Reply.record (addr : Nat) (r : Reply) : List Char :=
  '=' :: addrChars addr ++ ' ' :: r.body ++ ['\r']

end Sys2Proof.Machine
end

