-- ==== Sys2Proof/Decode.lean ====
section
/-! DEFINITION. Reading commands: the text of a record into a command (R182, R183), and the table's words (none has bits). -/

namespace Sys2Proof

open Machine

/-! ### Arguments -/

/-- The words an argument may be, with their texts (R183). -/
def kwText : Kw → String
  | .instr => "INSTR" | .ant => "ANT" | .fix => "FIX" | .load => "LOAD" | .inner => "INNER"
  | .none => "NONE" | .sense => "SENSE" | .handshake => "HANDSHAKE" | .both => "BOTH"
  | .sp2 => "SP2" | .sp3 => "SP3" | .sp4 => "SP4" | .sp5 => "SP5" | .sp6 => "SP6" | .sp7 => "SP7" | .sp8 => "SP8"
  | .xfer => "XFER" | .eml => "EML" | .emf => "EMF" | .ss => "SS"
  | .force => "FORCE" | .pre => "PRE" | .all => "ALL"
  | .link => "LINK" | .linkp => "LINKP" | .unlink => "UNLINK" | .step => "STEP" | .lim => "LIM" | .clr => "CLR"
  | .e => "E" | .n => "N" | .pace => "PACE" | .soft => "SOFT" | .auto => "AUTO"
  | .a => "A" | .b => "B" | .pat => "PAT" | .route => "ROUTE" | .ready => "READY" | .atEnd => "END" | .rep => "REP"
  | .latch => "LATCH" | .drop => "DROP" | .halt => "HALT" | .rise => "RISE" | .fall => "FALL"
  | .off => "OFF" | .narrow => "NARROW" | .wide => "WIDE" | .on => "ON"
  | .rate => "RATE" | .gated => "GATED" | .retrig => "RETRIG" | .seq => "SEQ" | .wind => "WIND" | .dwell => "DWELL"
  | .other => ""

def kwAll : List Kw :=
  [.instr, .ant, .fix, .load, .inner, .none, .sense, .handshake, .both, .sp2, .sp3, .sp4, .sp5, .sp6, .sp7, .sp8, .xfer,
   .eml, .emf, .ss, .force, .pre, .all, .link, .linkp, .unlink, .step, .lim, .clr, .e, .n, .pace, .soft, .auto,
   .a, .b, .pat, .route, .ready, .atEnd, .rep, .latch, .drop, .halt, .rise, .fall, .off, .narrow, .wide, .on,
   .rate, .gated, .retrig, .seq, .wind, .dwell]

/-- The listed word with a given text. -/
def kwOf (cs : List Char) : Option Kw := kwAll.find? (fun w => (kwText w).toList == cs)

def isDigit (c : Char) : Bool := '0' ≤ c ∧ c ≤ '9'
def isLetter (c : Char) : Bool := 'A' ≤ c ∧ c ≤ 'Z'

/-- Upper case, since letters are read without regard to case (R183). -/
def upper (c : Char) : Char := if 'a' ≤ c ∧ c ≤ 'z' then Char.ofNat (c.toNat - 32) else c

/-- The value of decimal digits, leading zeros allowed (R183, Number). -/
def digitsValue (cs : List Char) : Nat := cs.foldl (fun n c => 10 * n + (c.toNat - 48)) 0

/-- Digits without leading zeros (R183, Identifier). -/
def idNumber (cs : List Char) : Option Nat :=
  match cs with
  | [] => none
  | ['0'] => some 0
  | c :: t => if c = '0' then none else if isDigit c && t.all isDigit then some (digitsValue cs) else none

/-- The identifier kinds that a run of letters names. -/
def idKindOf (cs : List Char) : Option IdKind :=
  [IdKind.e, .n, .p, .s, .l, .d, .b, .ti, .to].find? (fun k => (idText k).toList == cs)

/-- An identifier: its letters and a number without leading zeros. -/
def lexIdent (cs : List Char) : Option Atom :=
  match idKindOf (cs.takeWhile isLetter), idNumber (cs.dropWhile isLetter) with
  | some k, some n => some (.ident k n)
  | _, _ => none

/-- A number with a sign or a fraction (admitted by `RFTH`, R85). DESIGN CHOICE (log entry 36): the spec gives no grammar for it;
a sign of either kind may lead, and a point stands between digits. -/
def lexDec (cs : List Char) : Option Atom :=
  let body := match cs with
    | '-' :: t => t
    | '+' :: t => t
    | t => t
  let whole := body.takeWhile isDigit
  let neg := cs.head? = some '-'
  match body.dropWhile isDigit with
  | [] => if whole = [] then none else some (.dec neg (digitsValue whole) 0)
  | '.' :: frac =>
      if whole ≠ [] && frac ≠ [] && frac.all isDigit then some (.dec neg (digitsValue (whole ++ frac)) frac.length)
      else none
  | _ => none

/-- One part of an argument by its form (R183). A word that no rule lists is a letter followed by letters and digits. -/
def lexAtom (cs : List Char) : Atom :=
  if cs = ['-'] then .hyphen
  else if cs ≠ [] && cs.all isDigit then .num (digitsValue cs)
  else match kwOf cs with
    | some w => .word w
    | none =>
      match lexIdent cs with
      | some a => a
      | none =>
        match lexDec cs with
        | some a => a
        | none =>
          if (cs.head?.map isLetter).getD false && cs.all (fun c => isLetter c || isDigit c) then .word .other else .bad

/-- Split at every occurrence of a character. -/
def splitAt (c : Char) : List Char → List (List Char)
  | [] => [[]]
  | x :: t =>
    match splitAt c t with
    | [] => [[x]]
    | p :: ps => if x = c then [] :: p :: ps else (x :: p) :: ps

/-- An argument: one part, or two joined by a colon. -/
def lexArg (cs : List Char) : Arg :=
  match splitAt ':' cs with
  | [p] => .one (lexAtom p)
  | [p, q] => .pair (lexAtom p) (lexAtom q)
  | _ => .one .bad

/-- The argument list, absent when an argument between two commas is empty (R183). An empty first or last argument is read as
one of no form, which the command's own SYNTAX row finds, and which a command that disregards its arguments disregards. -/
def lexArgs (cs : List Char) : Option (List Arg) :=
  let parts := splitAt ',' cs
  if (parts.drop 1).dropLast.any (fun p => p = []) then none else some (parts.map lexArg)

/-! ### Records -/

/-- Spaces standing immediately before the CR are disregarded (R183). -/
def dropTrailingSpaces (cs : List Char) : List Char := (cs.reverse.dropWhile (fun c => c = ' ')).reverse

/-- The tokens after the address, in upper case: absent when the record has no mnemonic or more than one space between
tokens (R183). -/
def recordTokens (body : List Char) : Option (List (List Char)) :=
  match splitAt ' ' ((dropTrailingSpaces body).map upper) with
  | [] :: t => if t = [] || t.any (fun p => p = []) then none else some t
  | _ => none

/-- The commands whose syntax line shows no keyword, by mnemonic (9.10). -/
def plainCommand (mnemonic : List Char) (args : List Arg) : Option Instr :=
  let table : List (String × Instr) :=
    [("NODE", .node args), ("NODE?", .nodeQuery args), ("ELEM", .elem args), ("ELEM?", .elemQuery args), ("POSN", .posn args),
     ("PATH", .path args), ("PATH?", .pathQuery args), ("PDEL", .pdel args), ("LINK", .link args),
     ("UNLINK", if args = [.one (.word .all)] then .unlinkAll else .unlink args), ("HELD?", .heldQuery args),
     ("SAFE", .safe .addressed), ("PULSE", .pulse args), ("PULSE?", .pulseQuery args), ("SETL", .setl args),
     ("SETL?", .setlQuery args), ("BANK", .bank args), ("BANK?", .bankQuery args), ("GUARD", .guard args),
     ("RFTH", .rfth args), ("MUTE", .mute args), ("MUTE?", .muteQuery args), ("SENSE?", .senseQuery args),
     ("SUPPLY?", .supplyQuery args), ("WEAR?", .wearQuery args), ("FREQ", .freq args), ("FREQ?", .freqQuery args),
     ("LOSS?", .lossQuery none args), ("STEP", .step args), ("STEP?", .stepQuery args), ("SDEL", .sdel args),
     ("LIST", .list args), ("LIST?", .listQuery args), ("LDEL", .ldel args), ("ARM", .arm args), ("GO", .go .addressed),
     ("HALT", .halt .addressed args), ("RESUME", .resume args), ("ABORT", .abort args), ("SEQ?", .seqQuery args),
     ("TRIN", .trin args), ("TRIN?", .trinQuery args), ("TROUT", .trout args), ("TROUT?", .troutQuery args),
     ("PACE", .pace args), ("PACE?", .paceQuery args), ("SNAP", .snap args), ("SNAP?", .snapQuery args),
     ("NOTE?", .noteQuery args), ("ATTN", .attn args), ("STAT?", .statQuery args), ("IDENT?", .identQuery args),
     ("SAVE", .save args), ("LOAD", .load args), ("STORE?", .storeQuery args), ("RESET", .reset .addressed)]
  (table.find? (fun row => row.1.toList == mnemonic)).map (·.2)

/-- The commands with a keyword after the mnemonic (9.2). -/
def keywordCommand (mnemonic kw : List Char) (args : List Arg) : Option Instr :=
  let table : List (String × String × Instr) :=
    [("WEAR", "LIM", .wearLim args), ("WEAR", "CLR", .wearClr args), ("LOSS", "E", .lossE args), ("LOSS", "N", .lossN args),
     ("LOSS?", "E", .lossQuery (some .e) args), ("LOSS?", "N", .lossQuery (some .n) args),
     ("PLAN?", "LINK", .planQuery .link args), ("PLAN?", "STEP", .planQuery .step args)]
  (table.find? (fun row => row.1.toList == mnemonic && row.2.1.toList == kw)).map (·.2.2)

/-- The command an addressed record's text stands for; a failure of form is the row BAD_RECORD (R183, R185). -/
def parseAddressed (body : List Char) : Instr :=
  match recordTokens body with
  | some [m] => (plainCommand m []).getD .badRecord
  | some [m, x] =>
    match keywordCommand m x [] with
    | some i => i
    | none => ((lexArgs x).bind (plainCommand m)).getD .badRecord
  | some [m, k, x] => ((lexArgs x).bind (keywordCommand m k)).getD .badRecord
  | _ => .badRecord

/-- The command a broadcast record stands for, by its mnemonic alone (R182). DESIGN CHOICE (log entry 39): one space stands before
the mnemonic; a record with none or with two is dropped. -/
def parseBroadcast (body : List Char) : Option Instr :=
  match body with
  | ' ' :: t =>
    let m := (t.takeWhile (fun c => c ≠ ' ')).map upper
    ([("SAFE", Instr.safe .broadcast), ("GO", .go .broadcast), ("HALT", .halt .broadcast []),
      ("RESET", .reset .broadcast)].find? (fun row => row.1.toList == m)).map (·.2)
  | _ => none

/-! ### The table's words -/

/-- No row of spec/opcode_table.json gives bits, so no word spells a command (log entry 30). -/
def decodeTableWord (_nbits _w : Nat) : Option Instr := none

end Sys2Proof
end

