-- ==== Sys2Proof/Machine/Flags.lean ====
section
/-! DEFINITION. Derived lines and flags: INHIBIT, attention, RF state, supply state, trigger levels, store fullness. -/

namespace Sys2Proof.Machine

/-- INHIBIT is asserted while a hold stands (R91, R92). -/
def GuardUnit.inhibit (g : GuardUnit) : Bool := g.planHold || g.safeHold || g.carry

/-- The attention line (R196): asserted while running with an entry waiting and the enable ON, never at address 0. -/
def State.attention (s : State) : Bool :=
  s.life = .running && s.settings.attn && !s.notices.isEmpty && s.straps.addr.val ≠ 0

/-- The RF state judged from a reading and a threshold, with 1 dB of hysteresis (R84). -/
def judgeRf (was : Bool) (reading threshold : HalfDb) : Bool :=
  if was then !(reading < threshold - 2) else threshold ≤ reading

/-- The RF state judged afresh at a start (R97). -/
def judgeRfFresh (reading threshold : HalfDb) : Bool := threshold ≤ reading

/-- Divide by a positive number, rounding to the nearest and a tie up or down as told. -/
def roundNearest (x : Int) (d : Nat) (tieUp : Bool) : Int :=
  let q := x / (d : Int)
  let r := x % (d : Int)
  if 2 * r < d then q else if 2 * r = d then (if tieUp then q + 1 else q) else q + 1

/-- A power in hundredths of dBm to a reading in half dB, to the nearest 0.5 dB and held within -50.0..+35.0 dBm (R84). -/
def readPower (centiDbm : Int) : HalfDb :=
  max (-100) (min 70 (roundNearest centiDbm 50 (Config.powerTieUp centiDbm)))

/-- A voltage in hundredths of a volt to a reading in tenths, to the nearest 0.1 V and held within 0.0..40.0 V (R98). -/
def readVoltage (centivolts : Int) : Nat :=
  (max 0 (min 400 (roundNearest centivolts 10 (Config.voltageTieUp centivolts)))).toNat

/-- The supply state after a reading, with its two bands (R98). -/
def nextSupply (was : SupplyState) (reading : Nat) : SupplyState :=
  if reading < 192 then .cut
  else if 216 ≤ reading then .normal
  else
    match was with
    | .normal => if reading < 212 then .low else .normal
    | .low => .low
    | .cut => if 196 ≤ reading then .low else .cut

/-- The supply state judged afresh at a start (R105). -/
def freshSupply (reading : Nat) : SupplyState :=
  if 216 ≤ reading then .normal else if reading < 192 then .cut else .low

/-- An output's level (R159). -/
def OutDrive.high : OutDrive → Bool
  | .off => false
  | _ => true

/-- A filter's qualification time, µs (R156). -/
def qualTime : Filter → Micros
  | .off => 0
  | .narrow => 2
  | .wide => 20

/-- Every table of the image is empty (R203): no node, element, route, step or list (DESIGN CHOICE, log entry 47). -/
def Tables.allEmpty (t : Tables) : Bool :=
  t.nodes.isEmpty && t.elems.isEmpty && t.routes.isEmpty && t.settings.steps.isEmpty && t.settings.lists.isEmpty

/-- Every table of the image is full (R203): every node, element, route, step and list is defined. DESIGN CHOICE (log entry 47): the
frequency grid and the loss lists are not counted. -/
def Tables.allFull (t : Tables) : Bool :=
  t.nodes.length = 192 && t.elems.length = 64 && t.routes.length = 128 && t.settings.steps.length = 256 &&
    t.settings.lists.length = 8

/-- The shortest time a save of given tables may take (R203). -/
def saveMin (t : Tables) : Micros := if t.allFull then Config.saveLongest else Config.saveShortest

/-- The time a save takes when nobody says when it ends: the free value of log entry 11 within the range of R203. -/
def saveTime (t : Tables) (n : Nat) : Micros :=
  if t.allEmpty then Config.saveShortest
  else if t.allFull then Config.saveLongest
  else Config.saveShortest + Config.saveSpread n % (Config.saveLongest - Config.saveShortest + 1)

end Sys2Proof.Machine
end

