-- ==== Sys2Proof/Machine/Ops.lean ====
section
/-! DEFINITION. The named operations over the state's parts that more than one command uses. -/

namespace Sys2Proof.Machine

/-! ### Numbers and time -/

/-- Round up to a multiple of 10 µs. -/
def roundUp10 (t : Nat) : Nat := (t + 9) / 10 * 10

/-- Round down to a multiple of 10 µs: the last tick passed (R171). -/
def roundDown10 (t : Nat) : Nat := t / 10 * 10

/-- Clamp into a range. -/
def clamp (lo hi x : Nat) : Nat := max lo (min hi x)

/-- The notice clock: whole milliseconds since the last start, wrapping after 4,294,967,295 (R192). -/
def State.noticeTime (s : State) : Nat := s.now / 1000 % 4294967296

/-- Time moves on to the moment of an event; it never moves back (log entry 2). -/
def State.at (s : State) (t : Micros) : State := { s with now := max s.now t }

/-! ### Notices (R193, R194) -/

/-- Raise the OVERFLOW entry's detail by 1, up to 65,535 (R194). -/
def raiseOverflow (n : Notice) : Notice :=
  match n.detail with
  | [.num k] => { n with detail := vNum (min 65535 (k + 1)) }
  | _ => n

/-- Queue a notice record by R193. -/
def queueNotice (q : List Notice) (n : Notice) : List Notice :=
  match q.getLast? with
  | some last =>
    if last.kind = .overflow then q.dropLast ++ [raiseOverflow last]
    else if q.length ≤ 14 then q ++ [n]
    else q ++ [⟨.overflow, n.time, vWord (noticeText n.kind), vNum 1⟩]
  | none => [n]

/-- Queue a notice at the present moment. -/
def State.notify (s : State) (k : NoticeKind) (subject detail : Val) : State :=
  { s with notices := queueNotice s.notices ⟨k, s.noticeTime, subject, detail⟩ }

/-! ### Wear marks (R106, R107, R205) -/

/-- Set the wear-changed mark, and start a flush clock when none runs (R205), also when the mark is set already (DESIGN CHOICE, log
entry 48). -/
def State.markWear (s : State) : State :=
  { s with store := { s.store with
      mark := true
      clock := match s.store.clock with
        | .absent => .running (s.now + Config.flushDelay)
        | c => c } }

/-- Change an element's record when it is defined. -/
def State.modElem (s : State) (e : Nat) (f : Element → Element) : State :=
  { s with elems := tmod s.elems e f }

/-- Change a route's record when it is defined. -/
def State.modRoute (s : State) (r : Nat) (f : Route → Route) : State :=
  { s with routes := tmod s.routes r f }

/-- Warn an element whose threshold is reached and whose flag is clear (R107). -/
def State.lifeTest (s : State) (e : Nat) : State :=
  match tget s.elems e with
  | some x =>
    if x.wear.limit ≠ 0 ∧ x.wear.warned = false ∧ x.wear.limit ≤ x.wear.life then
      (s.modElem e (fun y => { y with wear := { y.wear with warned := true } })).notify .life (vElem e) (vNum x.wear.life)
    else s
  | none => s

/-- A pulse adds 1 to the life count at its start, up to 99,999,999 (R106), and the element is tested (R107). -/
def State.countPulse (s : State) (e : Nat) : State :=
  match tget s.elems e with
  | some x =>
    if x.wear.life < 99999999 then
      ((s.modElem e (fun y => { y with wear := { y.wear with life := y.wear.life + 1 } })).markWear).lifeTest e
    else s.lifeTest e
  | none => s

/-- A hot pulse adds 1 to the hot count, up to 65,535 (R95, R106). -/
def State.countHot (s : State) (e : Nat) : State :=
  match tget s.elems e with
  | some x =>
    if x.wear.hot < 65535 then
      (s.modElem e (fun y => { y with wear := { y.wear with hot := y.wear.hot + 1 } })).markWear
    else s
  | none => s

/-! ### Elements (chapter 1) -/

/-- The number of throws of an SPn, 0 for an XFER. -/
def ElemKind.throws : ElemKind → Nat
  | .sp2 => 2 | .sp3 => 3 | .sp4 => 4 | .sp5 => 5 | .sp6 => 6 | .sp7 => 7 | .sp8 => 8 | .xfer => 0

/-- The number of terminals: C and the throws, or four (R5). -/
def ElemKind.terminals : ElemKind → Nat
  | .xfer => 4
  | k => k.throws + 1

/-- The number of connections (R7). -/
def ElemKind.connections : ElemKind → Nat
  | .xfer => 4
  | k => k.throws

/-- The legal positions of a kind and technology (R6). -/
def legalPos (k : ElemKind) (t : Tech) (p : Nat) : Bool :=
  match k, t with
  | .xfer, _ => p = 1 ∨ p = 2
  | _, .emf => p = 1 ∨ p = 2
  | k, _ => p ≤ k.throws

/-- The default safe position (R6). -/
def defaultSafe (k : ElemKind) (t : Tech) : Nat :=
  match k, t with
  | .xfer, _ => 1
  | _, .emf => 1
  | _, _ => 0

/-- The index of a slot among the 64. -/
def slotIndex (b s : Fin 8) : Fin 64 := ⟨8 * b.val + s.val, by omega⟩

def ElemDef.slotIndex (d : ElemDef) : Fin 64 := Machine.slotIndex d.bank d.slot

/-- A bank is fitted, as the straps read at the last start say (R8). -/
def isFitted (st : Straps) (b : Fin 8) : Bool := st.fitted.getLsbD b

/-- An element is sensed: EML or EMF, its bank fitted and strapped as sensed (R8). -/
def isSensed (st : Straps) (d : ElemDef) : Bool :=
  d.tech ≠ .ss && st.fitted.getLsbD d.bank && st.sensed.getLsbD d.bank

/-- The contacts closed among the first n. -/
def closedContacts (n : Nat) (closed : BitVec 8) : List Nat :=
  ((List.range n).filter (fun i => closed.getLsbD i)).map (· + 1)

/-- The reading of a report (R19). -/
def readingOf (k : ElemKind) (t : Tech) (closed : BitVec 8) : Reading :=
  match k, t with
  | .xfer, _ =>
    match closedContacts 2 closed with
    | [p] => .pos p
    | _ => .nothing
  | _, .emf =>
    match closedContacts 2 closed with
    | [p] => .pos p
    | _ => .nothing
  | k, _ =>
    match closedContacts k.throws closed with
    | [] => .pos 0
    | [p] => .pos p
    | _ => .nothing

/-- The present reading of an element's sense lines. -/
def State.reading (s : State) (d : ElemDef) : Reading :=
  readingOf d.kind d.tech s.senseLines[d.slotIndex]

/-- A reading as a recorded position: a legal position, else UNKNOWN. -/
def Reading.asPos : Reading → Option Nat
  | .pos p => some p
  | .nothing => none

/-- The terminal joined to terminal t in position q, with the connection index (R7). Terminal 0 is C or T1. -/
def partner (k : ElemKind) (q t : Nat) : Option (Nat × Nat) :=
  match k with
  | .xfer =>
    match q, t with
    | 1, 0 => some (1, 1) | 1, 1 => some (0, 1) | 1, 2 => some (3, 2) | 1, 3 => some (2, 2)
    | 2, 0 => some (3, 3) | 2, 3 => some (0, 3) | 2, 1 => some (2, 4) | 2, 2 => some (1, 4)
    | _, _ => none
  | k => if q = 0 ∨ k.throws < q then none else if t = 0 then some (q, q) else if t = q then some (0, q) else none

/-- The terminal of an element wired to a node (there is at most one, R9). -/
def terminalAt (d : ElemDef) (n : Nat) : Option Nat := d.terms.findIdx? (fun t => t = some n)

/-- A terminal's name in a wiring list: C and the throws, or T1 to T4 (R4). -/
def vTerminal (k : ElemKind) (t : Nat) : Val :=
  match k with
  | .xfer => [.word "T", .num (t + 1)]
  | _ => if t = 0 then vWord "C" else vNum t

/-- The elements wired to a node with the terminal, in ascending order: the node's wiring list (R1). -/
def State.wiring (s : State) (n : Nat) : List (Nat × Nat) :=
  s.elems.filterMap (fun kv => (terminalAt kv.2.d n).map (fun t => (kv.1, t)))

/-- How many terminals a node of a kind may be wired to (R1). -/
def NodeKind.wires : NodeKind → Nat
  | .inner => 2
  | _ => 1

/-- Set what a slot's drive lines carry. -/
def State.setDrive (s : State) (d : ElemDef) (v : SlotDrive) : State :=
  { s with engine := { s.engine with drive := s.engine.drive.set d.slotIndex v } }

/-! ### Routes, claims and the projection (chapter 2) -/

/-- A route names an element as a hop. -/
def Route.names (r : Route) (e : Nat) : Bool := r.d.hops.any (fun h => h.1 = e)

/-- The position a route requires of an element it names. -/
def Route.requires (r : Route) (e : Nat) : Option Nat := (r.d.hops.find? (fun h => h.1 = e)).map (·.2)

/-- Two routes conflict: a shared node, or one element in different positions (R33). -/
def conflict (a b : Route) : Bool :=
  a.nodes.any (fun n => b.nodes.contains n) ||
    a.d.hops.any (fun h => b.d.hops.any (fun g => h.1 = g.1 ∧ h.2 ≠ g.2))

/-- A route number names a defined route that names the element. -/
def State.routeNames (s : State) (e : Nat) (r : Nat) : Bool :=
  match tget s.routes r with
  | some x => x.names e
  | none => false

/-- The claims of an element: the held routes that name it (R18), in Held Set order. -/
def State.claims (s : State) (e : Nat) : List Nat := s.held.filter (s.routeNames e)

/-- The link ops of a plan. -/
def Plan.links (p : Plan) : List PlanOp := p.ops.filter (fun o => o.kind ≠ .unlink)

/-- The plans of the queue in order: the one in flight, then the waiting ones. -/
def State.plans (s : State) : List Plan :=
  (match s.engine.flight with
   | some f => [f.plan]
   | none => []) ++ s.engine.waiting

/-- The routes that the plan in flight will link when it is ready: none once it has been cut (R46, R76). -/
def State.linksInFlight (s : State) : List Nat :=
  match s.engine.flight with
  | some f => if f.phase = .cut then [] else f.plan.links.map (·.route)
  | none => []

/-- The routes that waiting plans will link, in queue order. -/
def State.linksWaiting (s : State) : List Nat := s.engine.waiting.flatMap (fun p => p.links.map (·.route))

/-- The PENDING routes in the queue order of the plans that will link them (R36). -/
def State.pendingRoutes (s : State) : List Nat :=
  (s.linksInFlight ++ s.linksWaiting).filter
    (fun r => match tget s.routes r with
      | some x => x.st = .pending
      | none => false)

/-- A route carries no release mark. -/
def State.unmarked (s : State) (r : Nat) : Bool :=
  match tget s.routes r with
  | some x => x.mark = none
  | none => false

/-- The projection (R36), in Held Set order and then pending routes in queue order. -/
def State.projection (s : State) : List Nat := (s.held ++ s.pendingRoutes).filter s.unmarked

/-- Two route numbers name routes that conflict. -/
def State.conflicts (s : State) (p q : Nat) : Bool :=
  match tget s.routes p, tget s.routes q with
  | some a, some b => conflict a b
  | _, _ => false

/-- Put release marks on routes (R37). -/
def State.markRoutes (s : State) (id : Nat) (rs : List (Nat × MarkKind)) : State :=
  rs.foldl (fun t rk => t.modRoute rk.1 (fun x => { x with mark := some ⟨rk.2, id⟩ })) s

/-- A route leaves the Held Set and becomes IDLE with an outcome, its mark cleared. -/
def State.dropRoute (s : State) (r : Nat) (o : LinkOutcome) : State :=
  { s.modRoute r (fun x => { x with st := .idle, outcome := some o, mark := none }) with
    held := s.held.filter (· ≠ r) }

/-- A held route is broken (R45): it leaves the Held Set, takes outcome BROKEN and queues its notice. -/
def State.breakRoute (c : Cause) (s : State) (r : Nat) : State :=
  (s.dropRoute r (.broken c)).notify .broken (vRoute r) (vWord (causeText c))

/-- Break every route claiming an element, oldest first (R16, R20, R23). -/
def State.breakClaims (s : State) (c : Cause) (e : Nat) : State :=
  (s.claims e).foldl (State.breakRoute c) s

/-- The steps that name a route (R26), in ascending order. -/
def State.stepRefs (s : State) (p : Nat) : List Nat :=
  (s.settings.steps.filter (fun kv => kv.2.ops.any (fun o => o.route = p))).map (·.1)

/-- The pairwise test of a step's ops (R124), given how two routes conflict: the route of the later op of the first failing
pair. -/
def opsTest (cf : Nat → Nat → Bool) : List StepOp → Option Nat
  | [] => none
  | i :: rest =>
    match rest.find? (fun j =>
        i.route = j.route ∨
          (i.kind ≠ .unlink ∧ cf i.route j.route = true)) with
    | some j => some j.route
    | none => opsTest cf rest

/-! ### Placing plans (R50, R51) -/

/-- Place a plan at the tail of the waiting list and use up its serial number. -/
def State.placePlan (s : State) (p : Plan) : State :=
  { s with engine := { s.engine with waiting := s.engine.waiting ++ [p], nextId := s.engine.nextId + 1 } }

/-- The Plan Queue holds four waiting plans (R51). -/
def State.queueFull (s : State) : Bool := 4 ≤ s.engine.waiting.length

/-! ### The sequencer and its timers -/

/-- The sequencer's state as reported. -/
def State.seqState (s : State) : SeqState :=
  match s.seq with
  | none => .idle
  | some r =>
    match r.mode with
    | .waiting => .waiting
    | .switching _ _ => .switching
    | .dwell => .dwell
    | .halted _ => .halted

/-- The sequencer is IDLE. -/
def State.seqIdle (s : State) : Bool := s.seq.isNone

/-- The window elapsed time: the last tick passed since the entry to WAITING, or the time held when stopped (R171). -/
def State.windowElapsed (s : State) : Micros :=
  match s.timers.window with
  | .running since => roundDown10 (s.now - since)
  | .stopped e => e

/-- The dwell timer's remaining time (R172). -/
def State.dwellRemaining (s : State) : Micros :=
  match s.timers.dwell with
  | .stopped => 0
  | .running endsAt => roundUp10 (endsAt - s.now)
  | .frozen r => r

/-- A pace count in ticks; 0 stands for 16,777,216 (R164). -/
def paceTicks (c : Nat) : Nat := if c = 0 then 16777216 else c

/-- The pace timer's remaining count in ticks (R164). -/
def State.paceRemaining (s : State) : Nat :=
  match s.timers.pace.phase with
  | .counting t => (t - s.now + 9) / 10
  | .held r => r
  | _ => 0

/-! ### Drive settings (R70 to R72) -/

/-- A technology's pulse width; an SS element has none. -/
def Settings.width (c : Settings) : Tech → Micros
  | .eml => c.pulseEml
  | .emf => c.pulseEmf
  | .ss => 0

def SettleTable.row (t : SettleTable) : Tech → SettleRow
  | .eml => t.eml
  | .emf => t.emf
  | .ss => t.ss

def SettleRow.get (r : SettleRow) : Profile → Micros
  | .p1 => r.p1
  | .p2 => r.p2
  | .p3 => r.p3

def SettleRow.put (r : SettleRow) (p : Profile) (v : Micros) : SettleRow :=
  match p with
  | .p1 => { r with p1 := v }
  | .p2 => { r with p2 := v }
  | .p3 => { r with p3 := v }

def SettleTable.put (t : SettleTable) (k : Tech) (p : Profile) (v : Micros) : SettleTable :=
  match k with
  | .eml => { t with eml := t.eml.put p v }
  | .emf => { t with emf := t.emf.put p v }
  | .ss => { t with ss := t.ss.put p v }

/-- A settle time (R61). -/
def Settings.settleTime (c : Settings) (k : Tech) (p : Profile) : Micros := (c.settle.row k).get p

/-- A bank's effective wave size: 1 while the supply is LOW (R59, R100). -/
def State.effSize (s : State) (b : Fin 8) : Nat :=
  if s.supply.st = .low then 1 else s.settings.waveSize[b]

end Sys2Proof.Machine
end

