-- ==== Sys2Proof/Machine/LossCalc.lean ====
section
/-! DEFINITION. The Loss Calculator: interpolation over the frequency grid and route loss (R118, R119). -/

namespace Sys2Proof.Machine

/-- The third row of R118 between (g, v) and (g', v'), rounded to the nearest whole cdB, halves up. -/
def interpolate (g v g' v' f : Nat) : Cdb :=
  let num : Int := (v : Int) * (g' - g) + ((v' : Int) - v) * (f - g)
  let den : Int := (g' : Int) - g
  ((2 * num + den) / (2 * den)).toNat

/-- The value of one loss list at a frequency (R118). -/
def lossAt : List Nat → List Cdb → Nat → Cdb
  | [], _, _ => 0
  | _, [], _ => 0
  | [_], v :: _, _ => v
  | _ :: _ :: _, [v], _ => v
  | g :: g' :: gs, v :: v' :: vs, f =>
    if f ≤ g then v
    else if f < g' then interpolate g v g' v' f
    else lossAt (g' :: gs) (v' :: vs) f

/-- The loss list of a connection of an element (R112). -/
def State.connLosses (s : State) (e c : Nat) : List Cdb :=
  match tget s.elems e with
  | some x => x.losses.getD (c - 1) []
  | none => []

/-- The loss list of a node. -/
def State.nodeLosses (s : State) (n : Nat) : List Cdb :=
  match tget s.nodes n with
  | some x => x.losses
  | none => []

/-- The terms of a route's loss at a frequency (R119): one a hop and one an intermediate node. -/
def State.lossTerms (s : State) (r : Route) (f : Nat) : List Cdb :=
  ((r.d.hops.zip r.conns).map (fun hc => lossAt s.settings.grid (s.connLosses hc.1.1 hc.2.conn) f)) ++
    ((r.nodes.drop 1).dropLast.map (fun n => lossAt s.settings.grid (s.nodeLosses n) f))

/-- The loss of a route at a frequency (R119). -/
def State.routeLoss (s : State) (r : Route) (f : Nat) : Cdb := (s.lossTerms r f).sum

/-- A list of zeros, one for each grid point (R112). -/
def State.zeroLosses (s : State) : List Cdb := List.replicate s.settings.grid.length 0

end Sys2Proof.Machine
end

