-- ==== Sys2Proof/Machine/TimerOps.lean ====
section
/-! DEFINITION. The Timer and Trigger Unit's operations: outputs, pace timer, latches (chapter 8). -/

namespace Sys2Proof.Machine

/-! ### Outputs (R159 to R162) -/

/-- Change the drive of one output. -/
def State.setOut (s : State) (o : Fin 4) (d : OutDrive) : State :=
  { s with timers := { s.timers with outs := s.timers.outs.set o d } }

/-- An action in pulse mode (R160). -/
def State.firePulse (s : State) (o : Fin 4) : State := s.setOut o (.pulse (s.now + s.settings.widths[o]))

/-- A step's plan ready reaches its output: level mode raises it, pulse mode fires a READY action (R160, R161). -/
def State.outReady (s : State) (n : Nat) (st : StepRec) : State :=
  match st.act with
  | none => s
  | some a =>
    if s.settings.widths[a.out] = 0 then s.setOut a.out (.level n)
    else if a.atReady then s.firePulse a.out
    else s

/-- An output tied to a step that has ended goes LOW (R161). -/
def lowerLevel (n : Nat) (d : OutDrive) : OutDrive := if d = .level n then .off else d

/-- A step's end reaches the outputs: an END action fires in pulse mode, then level drives tied to the step fall (R147, R160,
R161). -/
def State.outEnd (s : State) (n : Nat) (st : StepRec) : State :=
  let s' := match st.act with
    | some a => if a.atReady = false ∧ s.settings.widths[a.out] ≠ 0 then s.firePulse a.out else s
    | none => s
  { s' with timers := { s'.timers with outs := s'.timers.outs.map (lowerLevel n) } }

/-- Freeze a pulse with its time remaining, whole ticks (R162). -/
def freezeOut (now : Micros) : OutDrive → OutDrive
  | .pulse t => .frozen (roundUp10 (t - now))
  | d => d

/-- Let a frozen pulse run on (R162). -/
def thawOut (now : Micros) : OutDrive → OutDrive
  | .frozen r => .pulse (now + r)
  | d => d

def State.freezeOuts (s : State) : State :=
  { s with timers := { s.timers with outs := s.timers.outs.map (freezeOut s.now) } }

def State.thawOuts (s : State) : State :=
  { s with timers := { s.timers with outs := s.timers.outs.map (thawOut s.now) } }

/-! ### Pace timer (R164 to R168, R170) -/

/-- The gate's filtered level; a timer without a gate reads low. -/
def State.gateHigh (s : State) (p : PaceSetting) : Bool :=
  match p.gate with
  | some i => s.timers.ins[i].level
  | none => false

/-- Start the timer with a setting: the loaded count becomes the stored count, and the phase is R165's. -/
def startPace (now : Micros) (gateHigh : Bool) (p : PaceSetting) : PaceRec :=
  let phase := match p.mode with
    | .rate => PacePhase.counting (now + 10 * paceTicks p.count)
    | .gated => if gateHigh then .counting (now + 10 * paceTicks p.count) else .held (paceTicks p.count)
    | .retrig => .ready
  ⟨phase, p.count, false⟩

def State.startPace (s : State) : State :=
  { s with timers := { s.timers with pace := Machine.startPace s.now (s.gateHigh s.settings.pace) s.settings.pace } }

/-- A reload (R164): a pending new count is loaded, and the timer counts it from the present moment. -/
def reloadPace (now : Micros) (stored : Nat) (r : PaceRec) : PaceRec :=
  let count := if r.pend then stored else r.loaded
  ⟨.counting (now + 10 * paceTicks count), count, false⟩

/-- A change of the gate's filtered level acts on the timer (R167, R168). -/
def gateChange (now : Micros) (p : PaceSetting) (high : Bool) (r : PaceRec) : PaceRec :=
  match p.mode with
  | .rate => r
  | .gated =>
    match r.phase, high with
    | .counting t, false => { r with phase := .held ((t - now + 9) / 10) }
    | .held _, true => reloadPace now p.count r
    | _, _ => r
  | .retrig =>
    match r.phase, high with
    | .ready, true => reloadPace now p.count r
    | .counting _, true => reloadPace now p.count r
    | _, _ => r

/-- The pace timer stopped (R165). -/
def stopPace (r : PaceRec) : PaceRec := ⟨.stopped, r.loaded, false⟩

/-! ### Return to IDLE (R134) -/

/-- The sequencer returns to IDLE: its record is cleared, the timers stop, the outputs go low and the latches empty. -/
def State.returnIdle (s : State) : State :=
  { s with
    seq := none
    timers := { s.timers with
      outs := Vector.replicate 4 .off
      pace := stopPace s.timers.pace
      window := .stopped 0
      dwell := .stopped
      latch := .empty } }

end Sys2Proof.Machine
end

