-- ==== Sys2Proof/Machine/SeqOps.lean ====
section
/-! DEFINITION. The Sequencer's operations: advance events, entry to WAITING and HALTED, plan ready, step end (chapter 7).
A step that enters SWITCHING has its plan submitted by the chain of Machine/Chain.lean. -/

namespace Sys2Proof.Machine

/-- A blank step, for a record that names a step no longer defined (it cannot be: R128, R135). -/
def StepRec.blank : StepRec := ⟨[], .auto, 0, 0, .a, none, none, false⟩

/-- The step a run stands on. -/
def State.runStep (s : State) (r : Run) : StepRec := (tget s.settings.steps r.step).getD .blank

/-- The list a run walks. -/
def State.runList (s : State) (r : Run) : ListRec :=
  (tget s.settings.lists r.list).getD ⟨r.step, r.step, 1, 0, false, false, 0, 0, none⟩

/-- The named sources of a list (R136). -/
def State.sourceNamed (s : State) (l : ListRec) (src : Source) : Bool :=
  s.settings.steps.any (fun kv => l.first ≤ kv.1 ∧ kv.1 ≤ l.last ∧ kv.2.src = src)

/-- The current step enters SWITCHING with its plan to be submitted (R142). -/
def State.enterSwitching (s : State) (r : Run) : State :=
  { s with seq := some { r with mode := .switching false none } }

/-- Stop the window timer, holding an elapsed time (R171). -/
def State.stopWindow (s : State) (elapsed : Micros) : State :=
  { s with timers := { s.timers with window := .stopped elapsed } }

/-- An event from the current step's source in WAITING (R137). -/
def State.testEvent (s : State) (r : Run) : State :=
  if (s.runList r).early ≤ s.windowElapsed then
    (s.stopWindow s.windowElapsed).enterSwitching r
  else s.notify .early (vStep r.step) (vNum s.windowElapsed)

/-- Entry to WAITING (R140, R171): the window timer starts, and the pending trigger is emptied and, when it is of the step's
source, presented. -/
def State.enterWaiting (s : State) (r : Run) : State :=
  let r' := { r with mode := .waiting, trigger := none }
  let s' := { s with seq := some r', timers := { s.timers with window := .running s.now } }
  match r.trigger with
  | some (src, _) => if src = (s.runStep r).src then s'.testEvent r' else s'
  | none => s'

/-- A step becomes current (R135, R147): AUTO enters SWITCHING, any other source WAITING. -/
def State.makeCurrent (s : State) (r : Run) : State :=
  if (s.runStep r).src = .auto then s.enterSwitching r else s.enterWaiting r

/-- Entry to HALTED (R149): the pending trigger is emptied, outputs freeze, a HALT notice is queued. -/
def State.enterHalted (s : State) (r : Run) (p : ResumePoint) (cause : String) : State :=
  ({ s with seq := some { r with mode := .halted p, trigger := none } }.freezeOuts).notify .halt (vStep r.step) (vWord cause)

/-- An advance event that has arrived (R136, R139). A kept event's arrival time is the notice clock's (R133; DEDUCED, log entry 38). -/
def State.advanceEvent (s : State) (src : Source) : State :=
  match s.seq with
  | none => s
  | some r =>
    if s.sourceNamed (s.runList r) src then
      match r.mode with
      | .waiting => if (s.runStep r).src = src then s.testEvent r else s
      | .halted _ => s
      | _ =>
        if (s.runList r).latch then
          match r.trigger with
          | none => { s with seq := some { r with trigger := some (src, s.noticeTime) } }
          | some (p, _) => s.notify .triglost (vSource src) (vSource p)
        else s
    else s

/-- The dwell of a step in a pass (R146). -/
def chooseDwell (st : StepRec) (l : ListRec) (pass : Nat) : Micros :=
  match st.sel with
  | .a => st.dwellA
  | .b => st.dwellB
  | .pat => if l.pattern.testBit (pass % 16) then st.dwellB else st.dwellA

/-- Load the dwell timer (R172). -/
def State.loadDwell (s : State) (d : Micros) : State :=
  { s with timers := { s.timers with dwell := .running (s.now + d) } }

/-- A step ends (R147): outputs act, then the next step, the next pass, or the end of the list. -/
def State.stepEnd (s : State) (r : Run) : State :=
  let l := s.runList r
  let s1 := s.outEnd r.step (s.runStep r)
  let s2 := { s1 with timers := { s1.timers with dwell := .stopped } }
  let r1 := { r with chosen := none }
  if r.step < l.last then s2.makeCurrent { r1 with step := r.step + 1 }
  else if l.passes = 0 then s2.makeCurrent { r1 with step := l.first, pass := (r.pass + 1) % 65536 }
  else if r.pass + 1 < l.passes then s2.makeCurrent { r1 with step := l.first, pass := r.pass + 1 }
  else (s2.notify .listend (vId .l r.list) (vNum l.passes)).returnIdle

/-- Dwell or end the step, as the dwell chosen afresh says (R145, R150). -/
def State.beginDwell (s : State) (r : Run) : State :=
  let d := chooseDwell (s.runStep r) (s.runList r) r.pass
  let r' := { r with chosen := some d }
  if d = 0 then s.stepEnd r' else ({ s with seq := some { r' with mode := .dwell } }).loadDwell d

/-- The detail of a STEP notice: the pass index, then the route loss when the list has a report frequency and the step a link
op (R121, R145). -/
def State.stepDetail (s : State) (r : Run) (st : StepRec) : Val :=
  match (s.runList r).freq, st.ops.find? (fun o => o.kind ≠ .unlink) with
  | some f, some o =>
    match tget s.routes o.route with
    | some x => vJoin ':' [vNum r.pass, vNum (s.routeLoss x f)]
    | none => vNum r.pass
  | _, _ => vNum r.pass

/-- The plan ready of a step's plan (R145); `fail` is the cause of a failed result. -/
def State.stepPlanReady (s : State) (fail : Option Cause) : State :=
  match s.seq with
  | some r =>
    match r.mode with
    | .switching _ due =>
      if due = some .abort then (s.notify .halt (vStep r.step) (vWord "ABORT")).returnIdle
      else if fail.isSome then s.enterHalted r .retry "FAIL"
      else
        let st := s.runStep r
        let s1 := s.outReady r.step st
        let s2 := if st.rep then s1.notify .step (vStep r.step) (s1.stepDetail r st) else s1
        if due = some .halt then
          s2.enterHalted { r with chosen := some (chooseDwell st (s.runList r) r.pass) } .dwell "HALT"
        else s2.beginDwell r
    | _ => s
  | none => s

/-- The sequencer is ended at once, with a HALT notice of a cause (R151, R152). -/
def State.endRun (s : State) (cause : String) : State :=
  match s.seq with
  | some r => (s.notify .halt (vStep r.step) (vWord cause)).returnIdle
  | none => s

end Sys2Proof.Machine
end

