-- ==== Sys2Proof/Machine/Operands.lean ====
section
/-! DEFINITION. The operand forms of the command link (R183) and the answers commands give (R185, R191). -/

namespace Sys2Proof.Machine

/-! ### Answers -/

/-- What a command answers, and the state it leaves. -/
abbrev Answer := Reply × State

def okay (s : State) : Answer := (.ok [], s)
def okWith (vals : List Val) (s : State) : Answer := (.ok vals, s)
/-- A refusal changes nothing (R191). -/
def nak (c : Code) (s : State) : Answer := (.nak c [], s)
def nakWith (c : Code) (detail : Val) (s : State) : Answer := (.nak c detail, s)

/-! ### Forms -/

/-- An identifier with given letters. -/
def asId (k : IdKind) : Arg → Option Nat
  | .one (.ident k' n) => if k' = k then some n else none
  | _ => none

/-- A number: digits alone. -/
def asNum : Arg → Option Nat
  | .one (.num n) => some n
  | _ => none

/-- A keyword or enumerated value. -/
def asWord : Arg → Option Kw
  | .one (.word w) => some w
  | _ => none

/-- A signed decimal number rounded up to a multiple of 0.5 (R85). -/
def asHalves : Arg → Option Int
  | .one (.num n) => some (2 * (n : Int))
  | .one (.dec neg m k) =>
      some (if neg then -((2 * m / 10 ^ k : Nat) : Int) else (((2 * m + (10 ^ k - 1)) / 10 ^ k : Nat) : Int))
  | _ => none

/-- Every argument read by one form. -/
def asAll {α : Type} (f : Arg → Option α) : List Arg → Option (List α)
  | [] => some []
  | a :: t =>
    match f a, asAll f t with
    | some x, some xs => some (x :: xs)
    | _, _ => none

/-! ### Ranges (00_scope, "Identifiers") -/

def inElem (n : Nat) : Bool := n < 64
def inNode (n : Nat) : Bool := n < 192
def inRoute (n : Nat) : Bool := 1 ≤ n ∧ n ≤ 128
def inStep (n : Nat) : Bool := n < 256
def inList (n : Nat) : Bool := n < 8

def fin8 (n : Nat) : Option (Fin 8) := if h : n < 8 then some ⟨n, h⟩ else none
def fin4 (n : Nat) : Option (Fin 4) := if h : n < 4 then some ⟨n, h⟩ else none

def profileOf : Nat → Option Profile
  | 1 => some .p1
  | 2 => some .p2
  | 3 => some .p3
  | _ => none

/-- A time value: rounded up to a multiple of 10 µs and clamped into its range. -/
def storedTime (lo hi t : Nat) : Micros := clamp lo hi (roundUp10 t)

/-! ### Enumerated values -/

def nodeKindOf : Kw → Option NodeKind
  | .instr => some .instr | .ant => some .ant | .fix => some .fix | .load => some .load | .inner => some .inner
  | _ => none

def guardModeOf : Kw → Option GuardMode
  | .none => some .open_ | .sense => some .sense | .handshake => some .handshake | .both => some .both
  | _ => none

def elemKindOf : Kw → Option ElemKind
  | .sp2 => some .sp2 | .sp3 => some .sp3 | .sp4 => some .sp4 | .sp5 => some .sp5 | .sp6 => some .sp6 | .sp7 => some .sp7
  | .sp8 => some .sp8 | .xfer => some .xfer
  | _ => none

def techOfKw : Kw → Option Tech
  | .eml => some .eml | .emf => some .emf | .ss => some .ss
  | _ => none

def dwellSelOf : Kw → Option DwellSel
  | .a => some .a | .b => some .b | .pat => some .pat
  | _ => none

def opKindOf : Kw → Option OpKind
  | .link => some .link | .linkp => some .linkp | .unlink => some .unlink
  | _ => none

def filterOf : Kw → Option Filter
  | .off => some .off | .narrow => some .narrow | .wide => some .wide
  | _ => none

def paceModeOf : Kw → Option PaceMode
  | .rate => some .rate | .gated => some .gated | .retrig => some .retrig
  | _ => none

/-! ### Common argument shapes -/

/-- A command that takes no argument: any given is refused SYNTAX. -/
def noArgs (args : List Arg) (s : State) (go : Answer) : Answer :=
  if args = [] then go else nak .badForm s

/-- A command that takes one identifier within a range. -/
def oneId (k : IdKind) (inRange : Nat → Bool) (args : List Arg) (s : State) (go : Nat → Answer) : Answer :=
  match args with
  | [a] =>
    match asId k a with
    | some n => if inRange n then go n else nak .range s
    | none => nak .badForm s
  | _ => nak .badForm s

/-- A command that reads or acts on a defined record of a table. -/
def defined {α : Type} (t : Table α) (n : Nat) (s : State) (go : α → Answer) : Answer :=
  match tget t n with
  | some x => go x
  | none => nak .noId s

end Sys2Proof.Machine
end

