-- ==== Sys2Proof/Machine/EngineOps.lean ====
section
/-! DEFINITION. The Actuation Engine and the Guard Unit: the course of a plan (chapters 3, 4 and 5). -/

namespace Sys2Proof.Machine

/-! ### Releases and the move set (R53 to R56) -/

/-- The releases a plan carries. -/
def applyRelease (id : Nat) (s : State) (rk : Nat × MarkKind) : State :=
  match tget s.routes rk.1 with
  | some x =>
    if x.mark = some ⟨rk.2, id⟩ then
      if x.st = .held then
        match rk.2 with
        | .unlink => s.dropRoute rk.1 .released
        | .pre q => s.dropRoute rk.1 (.preempted q)
        | .force => State.breakRoute .force s rk.1
      else s.modRoute rk.1 (fun y => { y with mark := none })
    else s
  | none => s

/-- RELEASE (R38, R53): a forced POSN breaks every route claiming its element; then the marks carried are applied in op
order. -/
def State.releasePhase (s : State) (p : Plan) : State :=
  let s1 := match p.posn with
    | some q => if q.force then s.breakClaims .force q.elem else s
    | none => s
  p.releases.foldl (applyRelease p.id) s1

/-- An element is in FAULT. -/
def State.inFault (s : State) (e : Nat) : Bool :=
  match tget s.elems e with
  | some x => x.st = .fault
  | none => false

/-- An element stands IDLE at a position. -/
def State.inPlace (s : State) (e q : Nat) : Bool :=
  match tget s.elems e with
  | some x => x.st = .idle ∧ x.pos = some q
  | none => false

/-- The hops of a route. -/
def State.hopsOf (s : State) (p : Nat) : List (Nat × Nat) :=
  match tget s.routes p with
  | some x => x.d.hops
  | none => []

/-- CHECK fails when an element named by a link op is in FAULT (R54). -/
def State.checkFails (s : State) (p : Plan) : Bool :=
  p.links.any (fun o => (s.hopsOf o.route).any (fun h => s.inFault h.1))

/-- Put an entry into a move set kept in ascending element order, once per element. -/
def insertMove (m : Move) : List Move → List Move
  | [] => [m]
  | x :: t => if m.elem < x.elem then m :: x :: t else if m.elem = x.elem then x :: t else x :: insertMove m t

/-- The element's bank is fitted at this start (R8, R55). -/
def State.elemFitted (s : State) (e : Nat) : Bool :=
  match tget s.elems e with
  | some x => isFitted s.straps x.d.bank
  | none => false

/-- The moves of one link op (R55, R56): the hops not standing in place, with the override or the route's profile. -/
def State.routeMoves (s : State) (ovr : Option Profile) (p : Nat) : List Move :=
  match tget s.routes p with
  | some x =>
    (x.d.hops.filter (fun h => !s.inPlace h.1 h.2 && s.elemFitted h.1)).map
      (fun h => ⟨h.1, h.2, ovr.getD x.d.profile, .waiting, false⟩)
  | none => []

/-- The move set of routes linked together, in ascending element order; the first op naming an element gives its profile. -/
def State.linkMoves (s : State) (ovr : Option Profile) (ps : List Nat) : List Move :=
  (ps.flatMap (s.routeMoves ovr)).foldl (fun acc m => insertMove m acc) []

/-- The move set of a SAFE plan (R55, R79). -/
def State.safeMoves (s : State) : List Move :=
  s.elems.filterMap (fun kv =>
    if isFitted s.straps kv.2.d.bank && !s.inPlace kv.1 kv.2.d.safe then
      some ⟨kv.1, kv.2.d.safe, .p1, .waiting, false⟩
    else none)

/-- The move set computed at PLAN (R55). -/
def State.moveSet (s : State) (p : Plan) (checkFailed : Bool) : List Move :=
  match p.kind with
  | .safe => s.safeMoves
  | .posn =>
    match p.posn with
    | some q =>
      if !s.inPlace q.elem q.pos && s.elemFitted q.elem then [⟨q.elem, q.pos, p.profile.getD .p2, .waiting, false⟩] else []
    | none => []
  | .unlink => []
  | _ => if checkFailed then [] else s.linkMoves p.profile (p.links.map (·.route))

/-! ### Guard records (R87) -/

/-- The From node of a route. -/
def State.srcOf (s : State) (p : Nat) : Option Nat := (tget s.routes p).map (·.d.src)

/-- The nodes wired to an element's terminals. -/
def ElemDef.wired (d : ElemDef) : List Nat := d.terms.filterMap id

/-- The routes whose From nodes enter the guard set (R87). -/
def State.guardRoutes (s : State) (p : Plan) (checkFailed : Bool) : List Nat :=
  match p.posn with
  | some q =>
    match tget s.elems q.elem with
    | some x => (s.routes.filter (fun kv => kv.2.nodes.any (fun n => x.d.wired.contains n))).map (·.1)
    | none => []
  | none =>
    (p.ops.filter (fun o => o.kind = .unlink ∨ checkFailed = false)).map (·.route) ++ p.releases.map (·.1)

/-- The ports of a guard set, each node once, with mode and detector as they stand (R87). -/
def State.guardPorts (s : State) (routes : List Nat) : List GuardPort :=
  ((routes.filterMap s.srcOf).dedup).filterMap (fun n =>
    (tget s.nodes n).map (fun x => ⟨n, x.guard.getD .open_, x.det⟩))

def GuardMode.needsQuiet : GuardMode → Bool
  | .handshake | .both => true
  | _ => false

def GuardMode.needsSense : GuardMode → Bool
  | .sense | .both => true
  | _ => false

/-- The guard record built at GUARD entry (R87). -/
def State.guardRecord (s : State) (ports : List GuardPort) : GuardRec :=
  { ports := ports
    handshake := ports.any (fun g => g.mode.needsQuiet)
    watch := ports.filterMap (fun g => if g.mode.needsSense then g.det.map (fun d => (d, g.node)) else none)
    expiry := s.now + s.settings.mute
    hotReported := false }

/-- The record of a SAFE plan: every detector bound to an INSTR node at its MOVE start is watched (R93). -/
def State.safeRecord (s : State) : GuardRec :=
  { GuardRec.empty with
    watch := s.nodes.filterMap (fun kv => if kv.2.kind = .instr then kv.2.det.map (fun d => (d, kv.1)) else none) }

/-- The two conditions of R88. -/
def State.guardPasses (s : State) (g : GuardRec) : Bool :=
  (!g.handshake || (s.guard.inhibit && s.guard.quiet)) && g.watch.all (fun dn => !s.guard.dets[dn.1].present)

/-! ### The plan in flight -/

/-- Write back the plan in flight. -/
def State.setFlight (s : State) (f : Flight) : State :=
  { s with engine := { s.engine with flight := some f } }

/-- Change the plan in flight when there is one. -/
def State.modFlight (s : State) (g : Flight → Flight) : State :=
  match s.engine.flight with
  | some f => s.setFlight (g f)
  | none => s

/-- Change the entry of one element in a move set. -/
def setMove (e : Nat) (g : Move → Move) (ms : List Move) : List Move :=
  ms.map (fun m => if m.elem = e then g m else m)

/-- The technology of an element, EML when undefined (a move set holds defined elements only). -/
def State.techOf (s : State) (e : Nat) : Tech :=
  match tget s.elems e with
  | some x => x.d.tech
  | none => .eml

/-- An element is electromechanical and in a bank. -/
def State.emInBank (s : State) (b : Fin 8) (e : Nat) : Bool :=
  match tget s.elems e with
  | some x => x.d.tech ≠ .ss && x.d.bank = b
  | none => false

def Move.isResolved (m : Move) : Bool := m.prog = .resolved
def Move.isWaiting (m : Move) : Bool := m.prog = .waiting
def Move.isPulsing (m : Move) : Bool :=
  match m.prog with
  | .pulsing _ => true
  | _ => false

/-- The present exposure of a move's element stands (R95). -/
def Move.exposed (m : Move) : Bool :=
  match m.prog with
  | .pulsing _ => true
  | .settling _ _ => true
  | _ => false

/-! ### Arrival, fault and withdrawal (R15 to R17) -/

/-- The state an element takes when it is withdrawn unverified or unpulsed. -/
def Former.toState : Former → ElemState
  | .idle => .idle
  | .unknown => .unknown
  | .fault => .fault

/-- The present reading of a sensed element, kept absent for an unsensed one. -/
def State.senseNow (s : State) (x : Element) : Option Reading :=
  if x.sense.isSome then some (s.reading x.d) else none

/-- Arrival in place (R15): the recorded position becomes the target and the element IDLE. -/
def arrive (target : Nat) (sense : Option Reading) (x : Element) : Element :=
  { x with pos := some target, st := .idle, sense := sense, counting := none }

/-- The second mismatch (R16). -/
def enterFault (r : Reading) (x : Element) : Element :=
  { x with pos := r.asPos, st := .fault, sense := some r, counting := none }

/-- Withdrawal by the first row of R17: no pulse begun. -/
def withdrawUnpulsed (sense : Option Reading) (x : Element) : Element :=
  match x.st with
  | .moving _ former => { x with st := former.toState, sense := sense, counting := none }
  | _ => x

/-- Withdrawal by the second row of R17: pulsed and not verified. -/
def withdrawPulsed (sense : Option Reading) (x : Element) : Element :=
  match x.st with
  | .moving target former =>
    let pos := match sense with
      | some r => r.asPos
      | none => some target
    let st := if former = .fault then ElemState.fault else if pos.isSome then .idle else .unknown
    { x with pos := pos, st := st, sense := sense, counting := none }
  | _ => x

/-- The state an element had before a move (R14). -/
def formerOf : ElemState → Former
  | .fault => .fault
  | .unknown => .unknown
  | .idle => .idle
  | .moving _ f => f

/-- An element becomes MOVING (R14); a report not yet counted is discarded (R19). -/
def startMoving (target : Nat) (x : Element) : Element :=
  { x with st := .moving target (formerOf x.st), counting := none }

/-! ### Waves (R59 to R62, R64, R102) -/

/-- Some element of the bank has not been pulsed. -/
def State.bankWaiting (s : State) (f : Flight) (b : Fin 8) : Bool :=
  f.moves.any (fun m => m.isWaiting && s.emInBank b m.elem)

/-- The retry due first in a bank (R64): the earliest since, then the lowest element. -/
def State.bankRetry (s : State) (f : Flight) (b : Fin 8) : Option Nat :=
  let due := f.moves.filterMap (fun m =>
    match m.prog with
    | .retryDue t => if s.emInBank b m.elem then some (t, m.elem) else none
    | _ => none)
  match due with
  | [] => none
  | d :: ds => some (ds.foldl (fun best x => if x.1 < best.1 then x else best) d).2

/-- The bank may start a wave or a retry: the plan is in MOVE, nothing of the bank is pulsed, the supply is not CUT and the
hold limit has not expired (R59, R101, R103). -/
def State.bankFree (s : State) (f : Flight) (b : Fin 8) : Bool :=
  f.phase = .move && (f.banks[b].endsAt).isNone && s.supply.st ≠ .cut && !f.holdExpired

/-- When a bank's next ordinary wave starts (R59). -/
def State.waveDue (s : State) (b : Fin 8) : Option Micros :=
  match s.engine.flight with
  | some f => if s.bankFree f b && s.bankWaiting f b && s.effSize b ≠ 0 then some f.banks[b].freeAt else none
  | none => none

/-- When a bank's next retry starts (R64). -/
def State.retryDueAt (s : State) (b : Fin 8) : Option Micros :=
  match s.engine.flight with
  | some f =>
    if s.bankFree f b && !s.bankWaiting f b && (s.bankRetry f b).isSome then some f.banks[b].freeAt else none
  | none => none

/-- When a bank's running wave ends (R60). -/
def State.waveEndsAt (s : State) (b : Fin 8) : Option Micros :=
  match s.engine.flight with
  | some f => f.banks[b].endsAt
  | none => none

/-- The drive an element's slot carries while it is pulsed (R60). -/
def pulseDrive (t : Tech) (target : Nat) : SlotDrive :=
  match t with
  | .eml => .coil target
  | .emf => if target = 2 then .pullIn else .off
  | .ss => .bias target

/-- The continuous drive that holds an element at a position: nothing for EML, holding current for EMF at 2, bias for SS
(R6, R60). -/
def restDrive (t : Tech) (pos : Nat) : SlotDrive :=
  match t with
  | .eml => .off
  | .emf => if pos = 2 then .hold else .off
  | .ss => .bias pos

/-- Drive an element's slot. -/
def State.driveElem (s : State) (e : Nat) (v : Tech → SlotDrive) : State :=
  match tget s.elems e with
  | some x => s.setDrive x.d (v x.d.tech)
  | none => s

/-- One member's pulse starts: it is driven, counted and its exposure begins (R60, R95, R106). -/
def pulseMember (retry : Bool) (s : State) (m : Move) : State :=
  ((s.driveElem m.elem (fun t => pulseDrive t m.target)).countPulse m.elem).modFlight
    (fun f => { f with moves := setMove m.elem (fun x => { x with prog := .pulsing retry, charged := false }) f.moves })

/-- Start a wave of given members on a bank: it lasts the longest pulse width among them (R60). -/
def State.runWave (s : State) (b : Fin 8) (retry : Bool) (members : List Move) : State :=
  let len := (members.map (fun m => s.settings.width (s.techOf m.elem))).foldl max 0
  (members.foldl (pulseMember retry) s).modFlight
    (fun f => { f with banks := f.banks.set b { f.banks[b] with endsAt := some (s.now + len) } })

/-- Start the bank's next ordinary wave: up to the effective size of its unpulsed elements in ascending order (R59). -/
def State.startWave (s : State) (b : Fin 8) : State :=
  match s.engine.flight with
  | some f => s.runWave b false ((f.moves.filter (fun m => m.isWaiting && s.emInBank b m.elem)).take (s.effSize b))
  | none => s

/-- Start the bank's next retry, a wave of one (R64). -/
def State.startRetry (s : State) (b : Fin 8) : State :=
  match s.engine.flight with
  | some f =>
    match s.bankRetry f b with
    | some e => s.runWave b true (f.moves.filter (fun m => m.elem = e))
    | none => s
  | none => s

/-- Start what a bank may start at this moment: a wave, or else a retry (R58, R102). -/
def startBank (s : State) (b : Fin 8) : State :=
  match s.waveDue b with
  | some t => if t ≤ s.now then s.startWave b else s
  | none =>
    match s.retryDueAt b with
    | some t => if t ≤ s.now then s.startRetry b else s
    | none => s

/-- The eight banks in ascending order. -/
def allBanks : List (Fin 8) := [0, 1, 2, 3, 4, 5, 6, 7]

/-- Start every bank that may start now, in ascending order (DESIGN CHOICE, log entry 35: the spec gives no order across banks at
one moment). -/
def State.startBanks (s : State) : State := allBanks.foldl startBank s

/-! ### Hot events (R93 to R95) -/

/-- Charge every exposure that stands and is not charged yet (R95). -/
def State.chargeExposed (s : State) : State :=
  match s.engine.flight with
  | some f =>
    ((f.moves.filter (fun m => m.exposed && !m.charged)).foldl (fun t m => t.countHot m.elem) s).modFlight
      (fun g => { g with moves := g.moves.map (fun m => if m.exposed then { m with charged := true } else m) })
  | none => s

/-- A hot event at a port: the plan's first queues a HOT notice, and every one charges exposures (R94, R95). -/
def State.hotEvent (s : State) (port : Nat) (cause : String) : State :=
  match s.engine.flight with
  | some f =>
    let s1 := if f.guard.hotReported then s
      else (s.notify .hot (vNode port) (vWord cause)).setFlight { f with guard := { f.guard with hotReported := true } }
    s1.chargeExposed
  | none => s

/-- The plan in flight is watched (R93, R96): in MOVE or CUT. -/
def Flight.watched (f : Flight) : Bool := f.phase = .move ∨ f.phase = .cut

/-- A detector has become PRESENT (R93). -/
def State.rfAppeared (s : State) (d : Fin 8) : State :=
  match s.engine.flight with
  | some f =>
    if f.watched then
      match f.guard.watch.find? (fun dn => dn.1 = d) with
      | some dn => s.hotEvent dn.2 "RF"
      | none => s
    else s
  | none => s

/-- QUIET has fallen (R93): the lowest-numbered handshake port is named. -/
def State.quietFell (s : State) : State :=
  match s.engine.flight with
  | some f =>
    if f.watched && f.guard.handshake then
      match ((f.guard.ports.filter (fun g => g.mode.needsQuiet)).map (·.node)).min? with
      | some n => s.hotEvent n "QUIET"
      | none => s
    else s
  | none => s

/-! ### Verification (R15, R16, R63, R65) -/

/-- Mark an element's move as resolved. -/
def State.resolve (s : State) (e : Nat) : State :=
  s.modFlight (fun f => { f with moves := setMove e (fun m => { m with prog := .resolved }) f.moves })

/-- Verify an element at its ready time; `retry` tells the second comparison from the first. -/
def State.verify (s : State) (e target : Nat) (retry : Bool) : State :=
  match tget s.elems e with
  | none => s.resolve e
  | some x =>
    if x.sense.isNone then (s.modElem e (arrive target none)).resolve e
    else
      let r := s.reading x.d
      if r = .pos target then (s.modElem e (arrive target (some r))).resolve e
      else if retry then
        ((((s.modElem e (enterFault r)).notify .efault (vElem e) (vJoin ':' [vNum target, vReading r])).breakClaims .efault
          e).resolve e)
      else
        s.modFlight (fun f => { f with moves := setMove e (fun m => { m with prog := .retryDue s.now }) f.moves })

/-- Verify every element whose settle interval has length 0 and has just begun (R71). -/
def State.verifyReadyNow (s : State) (es : List Nat) : State :=
  es.foldl (fun t e =>
    match t.engine.flight with
    | some f =>
      match f.moves.find? (fun m => m.elem = e) with
      | some m =>
        match m.prog with
        | .settling retry readyAt => if readyAt ≤ t.now then t.verify e m.target retry else t
        | _ => t
      | none => t
    | none => t) s

/-! ### MOVE entry (R58) -/

/-- Drive an SS element of the move set at time 0: one pulse is counted, and it settles (R58, R61). -/
def driveSs (s : State) (m : Move) : State :=
  if s.techOf m.elem = .ss then
    ((s.driveElem m.elem (fun t => pulseDrive t m.target)).countPulse m.elem).modFlight
      (fun f =>
        let settle := Progress.settling false (s.now + s.settings.settleTime .ss m.profile)
        { f with moves := setMove m.elem (fun x => { x with prog := settle, charged := false }) f.moves })
  else s

/-- The plan enters MOVE: its elements become MOVING, SS elements are driven, the banks start their first waves, and the hold
clock is set under CUT (R14, R58, R103). A SAFE plan's watch begins (R93). DESIGN CHOICE (log entry 35): the pulses of this one
moment are counted SS elements first, then bank by bank. DESIGN CHOICE (log entry 41): at a SAFE plan's MOVE start those pulses,
with their LIFE notices, come before the hot event of a detector PRESENT at time 0 (R94). -/
def State.enterMove (s : State) : State :=
  match s.engine.flight with
  | none => s
  | some f =>
    let safe := f.plan.kind = .safe
    let f1 := { f with
      phase := .move
      guard := if safe then s.safeRecord else f.guard
      holdLimit := if s.supply.st = .cut then some (s.now + Config.holdLimit) else none
      banks := Vector.replicate 8 .fresh }
    let s1 := f.moves.foldl (fun t m => t.modElem m.elem (startMoving m.target)) (s.setFlight f1)
    let s2 := f.moves.foldl driveSs s1
    let s3 := s2.startBanks
    let s4 := if safe then
        (f1.guard.watch.filter (fun dn => s.guard.dets[dn.1].present)).foldl (fun t dn => t.hotEvent dn.2 "RF") s3
      else s3
    s4.verifyReadyNow (f.moves.map (·.elem))

/-! ### Plan start (R51 to R57) -/

/-- GUARD entry (R87, R88, R91): the record is built; a needed handshake takes a carried hold or asserts INHIBIT unless a
release interval runs; a plan that needs no handshake ends a carried hold. -/
def State.enterGuard (s : State) (f : Flight) : State :=
  let g := s.guardRecord (s.guardPorts (s.guardRoutes f.plan f.checkFailed))
  let s1 := s.setFlight { f with phase := .guard, guard := g }
  { s1 with guard := { s1.guard with
      planHold := g.handshake && s1.guard.releaseEnd.isNone
      carry := false } }

/-- The oldest waiting plan becomes IN FLIGHT and completes RELEASE, CHECK and PLAN (R51, R53 to R57). -/
def State.startPlan (s : State) : State :=
  match s.engine.waiting with
  | [] => s
  | p :: ps =>
    let s1 := { s with engine := { s.engine with waiting := ps } }
    let s2 := s1.releasePhase p
    let checkFailed := s2.checkFails p
    let moves := s2.moveSet p checkFailed
    let f : Flight :=
      { plan := p, phase := .done, started := s.now, moves := moves, guard := .empty, checkFailed := checkFailed
        guardFailed := false, holdExpired := false, holdLimit := none, banks := Vector.replicate 8 .fresh }
    if moves = [] then s2.setFlight f
    else if p.kind = .safe then
      let s3 := s2.setFlight { f with phase := .plan }
      ({ s3 with guard := { s3.guard with carry := false } }).enterMove
    else s2.enterGuard f

/-! ### Plan ready (R66 to R69) -/

/-- The cause an op of the plan fails with, none for success (R67). -/
def State.opFailure (s : State) (f : Flight) (o : PlanOp) : Option Cause :=
  if o.kind = .unlink then none
  else if f.checkFailed then some .faulted
  else if f.guardFailed then some .guard
  else if (s.hopsOf o.route).all (fun h => s.inPlace h.1 h.2) then none
  else if f.holdExpired then some .supply
  else some .efault

/-- The Route Table applies an op's outcome (R35, R144). -/
def State.applyOutcome (s : State) (o : PlanOp) (fail : Option Cause) : State :=
  match tget s.routes o.route with
  | none => s
  | some x =>
    if o.kind = .unlink then s
    else if o.satisfied then
      if fail.isNone ∧ x.st = .held then s.modRoute o.route (fun y => { y with outcome := some .ok }) else s
    else if x.st = .pending then
      match fail with
      | none =>
        { s.modRoute o.route (fun y => { y with st := .held, outcome := some .ok }) with held := s.held ++ [o.route] }
      | some c => s.modRoute o.route (fun y => { y with st := .idle, outcome := some (.failed c), mark := none })
    else s

/-- The notice of an op (R68). DESIGN CHOICE (log entry 44): the detail of DONE is the exact time elapsed in whole µs, not a whole
number of ticks. -/
def State.opNotice (s : State) (f : Flight) (o : PlanOp) (fail : Option Cause) : State :=
  match fail with
  | some c => s.notify .fail (vRoute o.route) (vWord (causeText c))
  | none =>
    if f.plan.kind = .link ∧ o.kind ≠ .unlink then s.notify .done (vRoute o.route) (vNum (s.now - f.started)) else s

/-- The positioning of a POSN plan: the cause it fails with (R67). -/
def State.posnFailure (s : State) (f : Flight) (q : Positioning) : Option Cause :=
  if f.guardFailed then some .guard
  else if s.inPlace q.elem q.pos then none
  else if f.holdExpired then some .supply
  else some .efault

/-- How many elements of a SAFE plan's move set are not IDLE at their safe position (R79). -/
def State.unsafeCount (s : State) (f : Flight) : Nat :=
  (f.moves.filter (fun m => !s.inPlace m.elem m.target)).length

/-- Outcomes and notices of every op, in op order. -/
def State.reportOps (s : State) (f : Flight) : State :=
  f.plan.ops.foldl (fun t o => (t.applyOutcome o (s.opFailure f o)).opNotice f o (s.opFailure f o)) s

/-- The notice of a POSN or SAFE plan (R68, R79). -/
def State.reportPlan (s : State) (f : Flight) : State :=
  match f.plan.kind, f.plan.posn with
  | .posn, some q =>
    match s.posnFailure f q with
    | none => s.notify .done (vElem q.elem) (vNum q.pos)
    | some c => s.notify .fail (vElem q.elem) (vWord (causeText c))
  | .safe, _ => s.notify .done [] (vNum (s.unsafeCount f))
  | _, _ => s

/-- The INHIBIT hold at plan ready (R91, R92): a plan hold, or the SAFE hold of a SAFE plan, waits for the next plan. -/
def GuardUnit.atReady (g : GuardUnit) (safe : Bool) : GuardUnit :=
  { g with
    carry := g.carry || g.planHold || (safe && g.safeHold)
    planHold := false
    safeHold := g.safeHold && !safe }

/-- Plan ready: outcomes, notices, the hold, and the plan leaves the queue; a STEP plan hands its result to the Sequencer
(R66 to R69). -/
def State.planReady (s : State) (f : Flight) : State :=
  let s1 := (s.reportOps f).reportPlan f
  let s2 := { s1 with
    engine := { s1.engine with flight := none }
    guard := s1.guard.atReady (f.plan.kind = .safe) }
  if f.plan.kind = .step then s2.stepPlanReady ((f.plan.ops.filterMap (s.opFailure f)).head?) else s2

/-! ### The cut (R76, R77) -/

/-- An element withdrawn by the cut or the hold limit (R17, R76). -/
def withdrawMove (s : State) (m : Move) : State :=
  match tget s.elems m.elem with
  | none => s.resolve m.elem
  | some x =>
    match m.prog with
    | .waiting => (s.modElem m.elem (withdrawUnpulsed (s.senseNow x))).resolve m.elem
    | .settling _ _ =>
      if x.d.tech = .ss then (s.modElem m.elem (arrive m.target none)).resolve m.elem
      else (s.modElem m.elem (withdrawPulsed (s.senseNow x))).resolve m.elem
    | .retryDue _ => (s.modElem m.elem (withdrawPulsed (s.senseNow x))).resolve m.elem
    | _ => s

/-- The plan in flight is cut (R76, R77, R96): link ops end ABORTED, elements not being pulsed are withdrawn, and nothing
more is started. A plan already cut goes on. -/
def State.cutFlight (s : State) : State :=
  match s.engine.flight with
  | none => s
  | some f =>
    if f.phase = .cut then s
    else
      let s1 := (f.plan.links.map (·.route)).foldl (fun t r => t.dropRoute r .aborted) s
      let s2 := s1.setFlight { f with phase := .cut, holdLimit := none, moves := if f.phase = .move then f.moves else [] }
      if f.phase = .move then f.moves.foldl withdrawMove s2 else s2

/-- A cut plan leaves the queue when no pulse runs; its plan hold ends (R77, R96). -/
def State.endCut (s : State) : State :=
  { s with
    engine := { s.engine with flight := none }
    guard := { s.guard with planHold := false } }

/-! ### Wave end (R60, R76) -/

/-- One member's pulse ends: the slot keeps its continuous drive; the element settles, or is withdrawn after a cut. -/
def endMember (b : Fin 8) (s : State) (m : Move) : State :=
  match m.prog with
  | .pulsing retry =>
    if s.emInBank b m.elem then
      let s1 := s.driveElem m.elem (fun t => restDrive t m.target)
      match s1.engine.flight, tget s1.elems m.elem with
      | some f, some x =>
        if f.phase = .cut then (s1.modElem m.elem (withdrawPulsed (s1.senseNow x))).resolve m.elem
        else
          let settle := Progress.settling retry (s.now + s.settings.settleTime x.d.tech m.profile)
          s1.modFlight (fun g => { g with moves := setMove m.elem (fun y => { y with prog := settle }) g.moves })
      | _, _ => s1
    else s
  | _ => s

/-- The bank's running wave ends: its members settle, and the gap begins (R59, R60). -/
def State.endWave (s : State) (b : Fin 8) : State :=
  match s.engine.flight with
  | none => s
  | some f =>
    let s1 := f.moves.foldl (endMember b) s
    let s2 := s1.modFlight (fun g => { g with banks := g.banks.set b ⟨none, s.now + Config.waveGap⟩ })
    s2.verifyReadyNow ((f.moves.filter (fun m => m.isPulsing && s.emInBank b m.elem)).map (·.elem))

/-! ### SAFE (R78, R92) -/

/-- Withdraw a waiting plan at SAFE (R46, R52): the routes of its link ops become IDLE with outcome ABORTED, and the marks it
carries are cleared. -/
def withdrawAll (s : State) (p : Plan) : State :=
  let s1 := (p.links.map (·.route)).foldl (fun t r => t.dropRoute r .aborted) s
  p.releases.foldl (fun t rk => t.modRoute rk.1 (fun x => { x with mark := none })) s1

/-- SAFE acts on each block holding work, in the order of R78. -/
def State.makeSafe (s : State) : State :=
  let s0 := { s with guard := { s.guard with safeHold := true, releaseEnd := none } }
  let s1 := s0.endRun "SAFE"
  let s2 := s1.engine.waiting.foldl withdrawAll s1
  let s3 := { s2 with engine := { s2.engine with waiting := [] } }
  let s4 := s3.cutFlight
  let s5 := s4.held.foldl (State.breakRoute .safe) s4
  s5.placePlan ⟨s5.engine.nextId, .safe, none, [], [], none, some .p1⟩

end Sys2Proof.Machine
end

