-- ==== Sys2Proof/Machine/Chain.lean ====
section
/-! DEFINITION. What follows at the same moment: plans starting, guards passing, plan ready, the submission of a step's plan,
in a chain that ends when nothing more is due without time passing (R51, R142, R147; log entry 9). -/

namespace Sys2Proof.Machine

/-! ### Submission of a step's plan (R142 to R144) -/

/-- A route's state, absent when the route is undefined. -/
def State.routeState (s : State) (r : Nat) : Option RouteState := (tget s.routes r).map (·.st)

/-- A route is HELD. -/
def State.isHeld (s : State) (r : Nat) : Bool := s.routeState r = some .held

/-- A list of marks names a route. -/
def marks (ms : List (Nat × MarkKind)) (r : Nat) : Bool := ms.any (fun m => m.1 = r)

/-- The PRE marks a preempting link of q finds, beyond marks already found (R37, R41, R142 stage 1). -/
def State.preMarks (s : State) (q : Nat) (ms : List (Nat × MarkKind)) : List (Nat × MarkKind) :=
  (s.projection.filter (fun r => r ≠ q && !marks ms r && s.conflicts q r)).map (fun r => (r, .pre q))

/-- Stage 1 of R142, in the order the marks are found: UNLINK ops in order, then LINKP ops in order. -/
def State.findMarks (s : State) (ops : List StepOp) : List (Nat × MarkKind) :=
  let un := (ops.filter (fun o => o.kind = .unlink && s.isHeld o.route)).map (fun o => (o.route, MarkKind.unlink))
  (ops.filter (fun o => o.kind = .linkp)).foldl (fun ms o => ms ++ s.preMarks o.route ms) un

/-- A mark was found for an op: the UNLINK mark of an UNLINK op's route, a PRE mark of a LINKP op's route. -/
def markOf (o : StepOp) (m : Nat × MarkKind) : Bool :=
  match o.kind, m.2 with
  | .unlink, .unlink => m.1 = o.route
  | .linkp, .pre q => q = o.route
  | _, _ => false

/-- The marks of stage 1 in op order, as the plan carries and applies them (R38, R50, R53). -/
def State.stepMarks (s : State) (ops : List StepOp) : List (Nat × MarkKind) :=
  ops.flatMap (fun o => (s.findMarks ops).filter (markOf o))

/-- The projection as marks leave it. -/
def State.projectionLess (s : State) (ms : List (Nat × MarkKind)) : List Nat := s.projection.filter (fun r => !marks ms r)

/-- Stage 2 of R142: a link op whose route is held and unmarked. -/
def State.isSatisfied (s : State) (ms : List (Nat × MarkKind)) (o : StepOp) : Bool :=
  o.kind ≠ .unlink && s.isHeld o.route && !marks ms o.route

/-- The link ops of a step that are not satisfied. -/
def State.unsatisfied (s : State) (ms : List (Nat × MarkKind)) (ops : List StepOp) : List StepOp :=
  ops.filter (fun o => o.kind ≠ .unlink && !s.isSatisfied ms o)

/-- Stage 3 of R142: the first LINK op that conflicts, with the route it conflicts with. -/
def State.stepConflict (s : State) (ms : List (Nat × MarkKind)) (ops : List StepOp) : Option (Nat × Nat) :=
  (s.unsatisfied ms ops).findSome? (fun o =>
    if o.kind = .link then
      ((s.projectionLess ms).find? (fun r => r ≠ o.route && s.conflicts o.route r)).map (fun r => (o.route, r))
    else none)

/-- Stage 4 of R142: the first unsatisfied link op beyond 32 routes (log entry 15). -/
def State.stepFull (s : State) (ms : List (Nat × MarkKind)) (ops : List StepOp) : Option Nat :=
  (((s.unsatisfied ms ops).drop (32 - (s.projectionLess ms).length)).head?).map (·.route)

/-- A step fails at submission (R143). -/
def State.submissionFails (s : State) (r : Run) (route : Nat) (detail : Val) : State :=
  (s.notify .fail (vRoute route) detail).enterHalted r .retry "FAIL"

/-- A passed submission takes effect (R144). -/
def State.submitPlan (s : State) (r : Run) (due : Option Due) (ms : List (Nat × MarkKind)) (st : StepRec) : State :=
  let id := s.engine.nextId
  let s1 := s.markRoutes id ms
  let s2 := (s.unsatisfied ms st.ops).foldl (fun t o => t.modRoute o.route (fun x => { x with st := .pending })) s1
  let ops := st.ops.map (fun o => PlanOp.mk o.kind o.route (s.isSatisfied ms o))
  let s3 := s2.placePlan ⟨id, .step, some r.step, ops, ms, none, st.ovr⟩
  { s3 with seq := some { r with mode := .switching true due } }

/-- The submission of the current step's plan. -/
def State.submitStep (s : State) (r : Run) (due : Option Due) : State :=
  let st := s.runStep r
  let ms := s.stepMarks st.ops
  match s.stepConflict ms st.ops with
  | some (p, q) => s.submissionFails r p (vJoin ':' [vWord "CONFLICT", vRoute q])
  | none =>
    match s.stepFull ms st.ops with
    | some p => s.submissionFails r p (vWord "FULL")
    | none => s.submitPlan r due ms st

/-! ### The chain -/

/-- The step in SWITCHING whose plan is not yet submitted. -/
def State.toSubmit (s : State) : Option (Run × Option Due) :=
  match s.seq with
  | some r =>
    match r.mode with
    | .switching false due => some (r, due)
    | _ => none
  | none => none

/-- What the plan in flight does without time passing (R57, R66, R77, R88). -/
def State.flightInstant (s : State) (f : Flight) : Option State :=
  match f.phase with
  | .done => some (s.planReady f)
  | .move => if f.moves.all Move.isResolved then some (s.planReady f) else none
  | .guard => if s.guardPasses f.guard then some s.enterMove else none
  | .cut => if f.moves.any Move.isPulsing then none else some s.endCut
  | _ => none

/-- The next thing due at this moment, if any. -/
def State.instant (s : State) : Option State :=
  match s.engine.flight with
  | some f => s.flightInstant f
  | none =>
    match s.engine.waiting with
    | _ :: _ => some s.startPlan
    | [] =>
      match s.toSubmit with
      | some (r, due) => some (s.submitStep r due)
      | none => if s.guard.carry then some { s with guard := { s.guard with carry := false } } else none

/-- Run a chain of instants to its end. -/
def settle : Nat → State → State
  | 0, s => s
  | n + 1, s =>
    match s.instant with
    | some t => settle n t
    | none => s

/-- Run everything due at this moment. -/
def State.settled (s : State) : State := settle Config.chainFuel s

end Sys2Proof.Machine
end

