-- ==== Sys2Proof/Machine/RouteOps.lean ====
section
/-! DEFINITION. Operations on routes: the continuity walk and the fields it derives (R27, R28), the withdrawal of waiting LINK
plans (R42, R52), and the values that describe routes. -/

namespace Sys2Proof.Machine

/-! ### Continuity (R28) -/

/-- One hop from a current node: the node it leads to and the connection used. Absent when the hop does not carry on. -/
def State.hopStep (s : State) (cur : Nat) (h : Nat × Nat) : Option (Nat × HopConn) :=
  match tget s.elems h.1 with
  | none => none
  | some x =>
    match terminalAt x.d cur with
    | none => none
    | some t =>
      match partner x.d.kind h.2 t with
      | none => none
      | some (u, c) =>
        match x.d.terms.getD u none with
        | none => none
        | some n => some (n, ⟨c, t⟩)

/-- A node is of kind INNER. -/
def State.isInner (s : State) (n : Nat) : Bool :=
  match tget s.nodes n with
  | some x => x.kind = .inner
  | none => false

/-- The walk from a current node: the nodes visited and the hop connections, or the index of the first failing hop. -/
def State.walk (s : State) (dst : Nat) : Nat → Nat → List Nat → List (Nat × Nat) → Except Nat (List Nat × List HopConn)
  | _, _, visited, [] => .ok (visited, [])
  | i, cur, visited, h :: rest =>
    match s.hopStep cur h with
    | none => .error i
    | some (n, c) =>
      if visited.contains n then .error i
      else if (if rest = [] then n = dst else s.isInner n = true) then
        match s.walk dst (i + 1) n (visited ++ [n]) rest with
        | .ok (ns, cs) => .ok (ns, c :: cs)
        | .error j => .error j
      else .error i

/-- The continuity check of a definition. -/
def State.continuity (s : State) (d : RouteDef) : Except Nat (List Nat × List HopConn) := s.walk d.dst 1 d.src [d.src] d.hops

/-- A route record for a definition: IDLE with no outcome and no mark, its derived fields from the walk (R27, R30, R49). -/
def State.freshRoute (s : State) (d : RouteDef) : Route :=
  match s.continuity d with
  | .ok (ns, cs) => ⟨d, ns, cs, .idle, none, none⟩
  | .error _ => ⟨d, [], [], .idle, none, none⟩

/-! ### Conflicts with the projection (R36, R39) -/

/-- The routes of the projection that conflict with a route. -/
def State.conflicting (s : State) (p : Nat) : List Nat := s.projection.filter (fun q => s.conflicts p q)

/-- The routes of the projection that name an element (R22, R23). -/
def State.projectionNames (s : State) (e : Nat) : List Nat := s.projection.filter (s.routeNames e)

/-! ### Withdrawing waiting LINK plans (R42, R43) -/

/-- A waiting plan carries a link op for a route. -/
def Plan.linksRoute (p : Plan) (r : Nat) : Bool := p.links.any (fun o => o.route = r)

/-- Some waiting plan will link a route. -/
def State.linkWaiting (s : State) (r : Nat) : Bool := s.engine.waiting.any (fun p => p.linksRoute r)

/-- The waiting list with the LINK plan of a route withdrawn: removed, or kept for the releases it carries (R42, R52). DESIGN
CHOICE (log entry 40): a plan carries the releases it was placed with, also when their marks have meanwhile been cleared. -/
def withdrawFrom (r : Nat) (ps : List Plan) : List Plan :=
  ps.filterMap (fun p => if p.linksRoute r then (if p.releases = [] then none else some { p with ops := [] }) else some p)

/-- Withdraw the request for a PENDING route: it becomes IDLE with outcome ABORTED. -/
def State.withdrawLink (s : State) (r : Nat) : State :=
  let s' := s.dropRoute r .aborted
  { s' with engine := { s'.engine with waiting := withdrawFrom r s'.engine.waiting } }

/-- Mark routes UNLINK and place one UNLINK plan for them (R42, R43). -/
def State.placeUnlink (s : State) (rs : List Nat) : State :=
  let ms := rs.map (fun r => (r, MarkKind.unlink))
  (s.markRoutes s.engine.nextId ms).placePlan ⟨s.engine.nextId, .unlink, none, [], ms, none, none⟩

/-! ### Values -/

def routeStateText : RouteState → String
  | .idle => "IDLE" | .pending => "PENDING" | .held => "HELD"

/-- A last outcome (R31). -/
def vOutcome : LinkOutcome → Val
  | .ok => vWord "OK"
  | .failed c => vJoin ':' [vWord "FAILED", vWord (causeText c)]
  | .broken c => vJoin ':' [vWord "BROKEN", vWord (causeText c)]
  | .released => vWord "RELEASED"
  | .preempted q => vJoin ':' [vWord "PREEMPTED", vRoute q]
  | .aborted => vWord "ABORTED"

/-- A release mark (R31, R47). -/
def vMark : MarkKind → Val
  | .unlink => vWord "UNLINK"
  | .pre q => vJoin ':' [vWord "PRE", vRoute q]
  | .force => vWord "FORCE"

/-- Hops as element and position pairs. -/
def vHops (hops : List (Nat × Nat)) : List Val := hops.flatMap (fun h => [vElem h.1, vNum h.2])

/-- The step references: their count and the lowest step, or 0 (R31). -/
def vStepRefs : List Nat → Val
  | [] => vNum 0
  | n :: ns => vJoin ':' [vNum (ns.length + 1), vStep n]

end Sys2Proof.Machine
end

