-- ==== Sys2Proof/Machine/Routes.lean ====
section
/-! DEFINITION. The commands of chapter 2: PATH, PATH?, PDEL, LINK, UNLINK, UNLINK ALL, HELD?. -/

namespace Sys2Proof.Machine

/-! ### PATH (R29, R30) -/

/-- The hop arguments: an element and a position each. -/
def parseHops : List Arg → Option (List (Nat × Nat))
  | [] => some []
  | ea :: qa :: rest =>
    match asId .e ea, asNum qa, parseHops rest with
    | some e, some q, some hs => some ((e, q) :: hs)
    | _, _, _ => none
  | [_] => none

/-- The arguments of PATH by their forms: route, ends, profile number (P2 when none), hops. -/
def parsePath : List Arg → Option (Nat × Nat × Nat × Nat × List (Nat × Nat))
  | pa :: fa :: ta :: rest =>
    match asId .p pa, asId .n fa, asId .n ta with
    | some p, some f, some t =>
      match rest with
      | .one (.ident .p k) :: hops => (parseHops hops).map (fun hs => (p, f, t, k, hs))
      | hops => (parseHops hops).map (fun hs => (p, f, t, 2, hs))
    | _, _, _ => none
  | _ => none

/-- Condition 2 of R29. -/
def pathInRange (p f t : Nat) (hs : List (Nat × Nat)) : Bool :=
  inRoute p && inNode f && inNode t && hs ≠ [] && hs.length ≤ 8 && hs.all (fun h => inElem h.1 && h.2 ≤ 8)

/-- Condition 3 of R29: the first undefined thing named. -/
def State.pathUndefined (s : State) (d : RouteDef) : Option Val :=
  if (tget s.nodes d.src).isNone then some (vNode d.src)
  else if (tget s.nodes d.dst).isNone then some (vNode d.dst)
  else (d.hops.find? (fun h => (tget s.elems h.1).isNone)).map (fun h => vElem h.1)

/-- A node of a kind. -/
def State.nodeIs (s : State) (n : Nat) (k : NodeKind) : Bool :=
  match tget s.nodes n with
  | some x => x.kind = k
  | none => false

/-- A hop position legal for its element. -/
def State.hopLegal (s : State) (h : Nat × Nat) : Bool :=
  match tget s.elems h.1 with
  | some x => legalPos x.d.kind x.d.tech h.2
  | none => false

/-- The first element in two hops. -/
def repeatedElem : List (Nat × Nat) → Option Nat
  | [] => none
  | h :: t => if t.any (fun g => g.1 = h.1) then some h.1 else repeatedElem t

/-- Condition 4 of R29: the node or element concerned, in the order the row lists the cases (log entry 33). -/
def State.pathIllegal (s : State) (d : RouteDef) : Option Val :=
  if !s.nodeIs d.src .instr then some (vNode d.src)
  else if s.nodeIs d.dst .inner || d.dst = d.src then some (vNode d.dst)
  else
    match d.hops.find? (fun h => !s.hopLegal h) with
    | some h => some (vElem h.1)
    | none => (repeatedElem d.hops).map vElem

/-- Condition 8 of R29: the lowest step whose ops would fail the test of R124 under a new record of route p. -/
def State.stepBrokenBy (s : State) (p : Nat) (r : Route) : Option Nat :=
  let t := { s with routes := tset s.routes p r }
  tfind s.settings.steps (fun _ st => st.ops.any (fun o => o.route = p) && (opsTest t.conflicts st.ops).isSome)

/-- Conditions 6 to 8 of R29. -/
def State.pathRefusal (s : State) (p : Nat) (r : Route) : Option (Code × Val) :=
  if s.routeState p = some .pending ∨ s.routeState p = some .held then some (.inUse, [])
  else if s.stepRefs p ≠ [] ∧ s.seqIdle = false then some (.seqActive, [])
  else (s.stepBrokenBy p r).map (fun n => (.conflict, vStep n))

def cmdPath (args : List Arg) (s : State) : Answer :=
  match parsePath args with
  | none => nak .badForm s
  | some (p, f, t, k, hs) =>
    match profileOf k, pathInRange p f t hs with
    | some prof, true =>
      let d : RouteDef := ⟨f, t, hs, prof⟩
      match s.pathUndefined d with
      | some v => nakWith .noId v s
      | none =>
        match s.pathIllegal d with
        | some v => nakWith .range v s
        | none =>
          match s.continuity d with
          | .error i => nakWith .continuity (vNum i) s
          | .ok (ns, cs) =>
            let r : Route := ⟨d, ns, cs, .idle, none, none⟩
            match s.pathRefusal p r with
            | some (c, v) => nakWith c v s
            | none => okay { s with routes := tset s.routes p r }
    | _, _ => nak .range s

/-! ### PATH? and PDEL (R31, R32) -/

def cmdPathQuery (args : List Arg) (s : State) : Answer :=
  oneId .p inRoute args s (fun p => defined s.routes p s (fun r =>
    okWith ([vNode r.d.src, vNode r.d.dst, vProfile r.d.profile] ++ vHops r.d.hops ++
      [vWord (routeStateText r.st), vOpt vOutcome r.outcome, vOpt (fun m => vMark m.kind) r.mark,
       vStepRefs (s.stepRefs p)]) s))

def cmdPdel (args : List Arg) (s : State) : Answer :=
  oneId .p inRoute args s (fun p => defined s.routes p s (fun r =>
    if r.st ≠ .idle then nak .inUse s
    else
      match s.stepRefs p with
      | n :: _ => nakWith .inUse (vStep n) s
      | [] => okay { s with routes := tdel s.routes p }))

/-! ### LINK (R39 to R41) -/

def parseLink : List Arg → Option (Nat × Bool)
  | [a] => (asId .p a).map (fun p => (p, false))
  | [a, .one (.word .pre)] => (asId .p a).map (fun p => (p, true))
  | _ => none

/-- The first FAULT element of a route in hop order (R39, R75). -/
def State.faultedHop (s : State) (r : Route) : Option Nat := (r.d.hops.find? (fun h => s.inFault h.1)).map (·.1)

/-- An accepted LINK: marks, PENDING, and the LINK plan (R40, R41). -/
def State.placeLink (s : State) (p : Nat) (ms : List (Nat × MarkKind)) : State :=
  ((s.markRoutes s.engine.nextId ms).modRoute p (fun x => { x with st := .pending })).placePlan
    ⟨s.engine.nextId, .link, none, [⟨.link, p, false⟩], ms, none, none⟩

def cmdLink (args : List Arg) (s : State) : Answer :=
  match parseLink args with
  | none => nak .badForm s
  | some (p, pre) =>
    if !inRoute p then nak .range s
    else
      defined s.routes p s (fun r =>
        if !s.seqIdle then nak .seqActive s
        else if r.st ≠ .idle then nak .state s
        else
          match s.faultedHop r with
          | some e => nakWith .faulted (vElem e) s
          | none =>
            let hit := s.conflicting p
            if 32 < s.projection.length - (if pre then hit.length else 0) + 1 then nak .full s
            else
              match (if pre then none else hit.head?) with
              | some q => nakWith .conflict (vRoute q) s
              | none =>
                if s.queueFull then nak .qfull s
                else okay (s.placeLink p (if pre then hit.map (fun q => (q, .pre p)) else [])))

/-! ### UNLINK (R42, R43) -/

def cmdUnlink (args : List Arg) (s : State) : Answer :=
  oneId .p inRoute args s (fun p => defined s.routes p s (fun r =>
    if !s.seqIdle then nak .seqActive s
    else if r.st = .idle ∨ r.mark.isSome then nak .state s
    else if r.st = .pending ∧ s.linkWaiting p then okay (s.withdrawLink p)
    else if s.queueFull then nak .qfull s
    else okay (s.placeUnlink [p])))

/-- The qualifying PENDING routes whose LINK plan waits, in queue order (R43, step 1). -/
def State.unlinkWithdraws (s : State) : List Nat :=
  s.linksWaiting.filter (fun r => s.routeState r = some .pending && s.unmarked r)

/-- The remaining qualifying routes: the held ones in order, then the one in flight (R43, step 2). -/
def State.unlinkMarks (s : State) : List Nat :=
  s.held.filter s.unmarked ++ s.linksInFlight.filter (fun r => s.routeState r = some .pending && s.unmarked r)

def cmdUnlinkAll (s : State) : Answer :=
  if !s.seqIdle then nak .seqActive s
  else
    let s1 := s.unlinkWithdraws.foldl State.withdrawLink s
    if s.unlinkMarks = [] then okay s1
    else if s1.queueFull then nak .qfull s
    else okay (s1.placeUnlink s.unlinkMarks)

/-! ### HELD? (R47) -/

def State.vHeld (s : State) (r : Nat) : Val :=
  match (tget s.routes r).bind (·.mark) with
  | some m => vJoin ':' [vRoute r, vMark m.kind]
  | none => vRoute r

def cmdHeldQuery (args : List Arg) (s : State) : Answer :=
  noArgs args s (okWith (vNum s.held.length :: s.held.map s.vHeld) s)

end Sys2Proof.Machine
end

