-- ==== Sys2Proof/Machine/Drive.lean ====
section
/-! DEFINITION. The commands of chapter 3: SAFE, PULSE, SETL, BANK, PLAN? and their queries. -/

namespace Sys2Proof.Machine

/-- SAFE is never refused; its arguments are disregarded (R78). -/
def cmdSafe (s : State) : Answer := okay s.makeSafe

/-! ### PULSE (R70) -/

/-- The technology of a settings command. -/
def asTech (a : Arg) : Option (Option Tech) := (asWord a).map techOfKw

def cmdPulse (args : List Arg) (s : State) : Answer :=
  match args with
  | [a, b] =>
    match asTech a, asNum b with
    | some (some .eml), some t =>
      let v := storedTime 2000 50000 t
      okWith [vNum v] { s with settings := { s.settings with pulseEml := v } }
    | some (some .emf), some t =>
      let v := storedTime 2000 50000 t
      okWith [vNum v] { s with settings := { s.settings with pulseEmf := v } }
    | some _, some _ => nak .range s
    | _, _ => nak .badForm s
  | _ => nak .badForm s

def cmdPulseQuery (args : List Arg) (s : State) : Answer :=
  noArgs args s (okWith [vNum s.settings.pulseEml, vNum s.settings.pulseEmf] s)

/-! ### SETL (R71) -/

def cmdSetl (args : List Arg) (s : State) : Answer :=
  match args with
  | [a, b, c] =>
    match asTech a, asId .p b, asNum c with
    | some tech, some k, some t =>
      match tech, profileOf k with
      | some tech, some p =>
        let v := storedTime 0 200000 t
        okWith [vNum v] { s with settings := { s.settings with settle := s.settings.settle.put tech p v } }
      | _, _ => nak .range s
    | _, _, _ => nak .badForm s
  | _ => nak .badForm s

/-- The three values of one row. -/
def SettleRow.vals (r : SettleRow) : List Val := [vNum r.p1, vNum r.p2, vNum r.p3]

def cmdSetlQuery (args : List Arg) (s : State) : Answer :=
  noArgs args s (okWith (s.settings.settle.eml.vals ++ s.settings.settle.emf.vals ++ s.settings.settle.ss.vals) s)

/-! ### BANK (R72) -/

def cmdBank (args : List Arg) (s : State) : Answer :=
  match args with
  | [a, b] =>
    match asId .b a, asNum b with
    | some b, some k =>
      match fin8 b with
      | some b =>
        if 1 ≤ k ∧ k ≤ 8 then okay { s with settings := { s.settings with waveSize := s.settings.waveSize.set b k } }
        else nak .range s
      | none => nak .range s
    | _, _ => nak .badForm s
  | _ => nak .badForm s

def cmdBankQuery (args : List Arg) (s : State) : Answer :=
  match args with
  | [a] =>
    match asId .b a with
    | some b =>
      match fin8 b with
      | some b => okWith [vNum s.settings.waveSize[b], vNum (s.effSize b)] s
      | none => nak .range s
    | none => nak .badForm s
  | _ => nak .badForm s

/-! ### PLAN? (R74, R75) -/

/-- A bank's waves from a start: the latest ready time and the number of waves (R74, steps 2 to 4). The first argument bounds
the number of waves. -/
def State.predictWaves (s : State) (k : Nat) : Nat → Micros → List Move → Micros × Nat
  | 0, _, _ => (0, 0)
  | n + 1, start, ms =>
    match ms with
    | [] => (0, 0)
    | _ =>
      let group := ms.take k
      let ends := start + (group.map (fun m => s.settings.width (s.techOf m.elem))).foldl max 0
      let ready := (group.map (fun m => ends + s.settings.settleTime (s.techOf m.elem) m.profile)).foldl max 0
      let rest := s.predictWaves k n (ends + Config.waveGap) (ms.drop k)
      (max ready rest.1, rest.2 + 1)

/-- The prediction for one bank. -/
def State.predictBank (s : State) (moves : List Move) (b : Fin 8) : Micros × Nat :=
  let ms := moves.filter (fun m => s.emInBank b m.elem)
  s.predictWaves s.settings.waveSize[b] ms.length 0 ms

/-- The predicted time, the number of elements and the greatest number of waves (R74, R75). -/
def State.predict (s : State) (moves : List Move) : Micros × Nat × Nat :=
  let banks := allBanks.map (s.predictBank moves)
  let ss := (moves.filter (fun m => s.techOf m.elem = .ss)).map (fun m => s.settings.settleTime .ss m.profile)
  ((banks.map (·.1) ++ ss).foldl max 0, moves.length, (banks.map (·.2)).foldl max 0)

/-- Answer a prediction for routes linked together. -/
def State.answerPlan (s : State) (ovr : Option Profile) (ps : List Nat) : Answer :=
  match ps.findSome? (fun p => (tget s.routes p).bind s.faultedHop) with
  | some e => nakWith .faulted (vElem e) s
  | none =>
    let r := s.predict (s.linkMoves ovr ps)
    okWith [vNum r.1, vNum r.2.1, vNum r.2.2] s

def cmdPlanQuery (kw : Kw) (args : List Arg) (s : State) : Answer :=
  match kw with
  | .link => oneId .p inRoute args s (fun p => defined s.routes p s (fun _ => s.answerPlan none [p]))
  | .step => oneId .s inStep args s (fun n => defined s.settings.steps n s (fun st =>
      s.answerPlan st.ovr ((st.ops.filter (fun o => o.kind ≠ .unlink)).map (·.route))))
  | _ => nak .badForm s

end Sys2Proof.Machine
end

