-- ==== Sys2Proof/Machine/Fabric.lean ====
section
/-! DEFINITION. The commands of chapter 1: NODE, NODE?, ELEM, ELEM?, POSN. -/

namespace Sys2Proof.Machine

/-! ### NODE (R2, R3) -/

/-- The arguments of NODE by their forms. -/
def parseNode : List Arg → Option (Nat × Kw × Option Nat)
  | [a, b] =>
    match asId .n a, asWord b with
    | some n, some w => some (n, w, none)
    | _, _ => none
  | [a, b, c] =>
    match asId .n a, asWord b, asId .d c with
    | some n, some w, some d => some (n, w, some d)
    | _, _, _ => none
  | _ => none

/-- Another node bound to a detector. -/
def State.boundElsewhere (s : State) (n : Nat) (d : Option (Fin 8)) : Option Nat :=
  match d with
  | none => none
  | some d => tfind s.nodes (fun k x => k ≠ n && x.det = some d)

/-- The lowest-numbered route that names a node as From, To or an intermediate node. -/
def State.routeAt (s : State) (n : Nat) : Option Nat := tfind s.routes (fun _ r => r.nodes.contains n)

/-- What holds a node's kind: the lowest element wired to it, else the lowest route that names it (R2, condition 4). -/
def State.kindHeldBy (s : State) (n : Nat) : Option Val :=
  match s.wiring n with
  | (e, _) :: _ => some (vElem e)
  | [] => (s.routeAt n).map vRoute

/-- The lowest PENDING or HELD route through a node (R2, condition 5). -/
def State.liveRouteAt (s : State) (n : Nat) : Option Nat :=
  tfind s.routes (fun _ r => r.st ≠ .idle && r.nodes.contains n)

/-- The record an accepted NODE writes (R3). -/
def State.nodeRecord (s : State) (n : Nat) (kind : NodeKind) (det : Option (Fin 8)) : Node :=
  match tget s.nodes n with
  | some x =>
    if x.kind = kind then { x with det := det }
    else ⟨kind, det, if kind = .instr then some .open_ else none, if kind = .inner then s.zeroLosses else []⟩
  | none => ⟨kind, det, if kind = .instr then some .open_ else none, if kind = .inner then s.zeroLosses else []⟩

/-- Conditions 4 to 6 of R2 for a defined node: the refusal, if any. -/
def State.nodeRefusal (s : State) (n : Nat) (kind : NodeKind) (det : Option (Fin 8)) : Option (Code × Val) :=
  match tget s.nodes n with
  | none => none
  | some x =>
    match (if x.kind ≠ kind then s.kindHeldBy n else none) with
    | some v => some (.inUse, v)
    | none =>
      match s.liveRouteAt n with
      | some r => some (.inUse, vRoute r)
      | none =>
        if (x.guard = some .sense ∨ x.guard = some .both) ∧ det = none then some (.state, []) else none

def cmdNode (args : List Arg) (s : State) : Answer :=
  match parseNode args with
  | none => nak .badForm s
  | some (n, w, d) =>
    match inNode n, nodeKindOf w, d.map fin8 with
    | true, some kind, none =>
      match s.nodeRefusal n kind none with
      | some (c, v) => nakWith c v s
      | none => okay { s with nodes := tset s.nodes n (s.nodeRecord n kind none) }
    | true, some .instr, some (some d) =>
      match s.boundElsewhere n (some d) with
      | some m => nakWith .inUse (vNode m) s
      | none =>
        match s.nodeRefusal n .instr (some d) with
        | some (c, v) => nakWith c v s
        | none => okay { s with nodes := tset s.nodes n (s.nodeRecord n .instr (some d)) }
    | _, _, _ => nak .range s

/-! ### NODE? (R4) -/

/-- The wiring list of a node: element and terminal joined by a colon, separated by spaces. -/
def State.vWiring (s : State) (n : Nat) : Val :=
  vJoin ' ' ((s.wiring n).filterMap (fun et =>
    (tget s.elems et.1).map (fun x => vJoin ':' [vElem et.1, vTerminal x.d.kind et.2])))

def cmdNodeQuery (args : List Arg) (s : State) : Answer :=
  oneId .n inNode args s (fun n => defined s.nodes n s (fun x =>
    okWith [vWord (nodeKindText x.kind), vOpt (fun d => vId .d d.val) x.det, vOpt (fun g => vWord (guardModeText g)) x.guard,
      s.vWiring n] s))

/-! ### ELEM (R11, R12) -/

/-- The form of a terminal entry: a node or a hyphen. -/
def asTerminal : Arg → Option (Option Nat)
  | .one .hyphen => some none
  | .one (.ident .n n) => some (some n)
  | _ => none

/-- Split the arguments after the slot into terminals and the safe position, by the number of terminals. -/
def parseTerminals (m : Nat) (rest : List Arg) : Option (List (Option Nat) × Option Nat) :=
  match asAll asTerminal (rest.take m), rest.drop m with
  | some ts, [] => if ts.length = m then some (ts, none) else none
  | some ts, [x] =>
    match asNum x with
    | some p => some (ts, some p)
    | none => none
  | _, _ => none

/-- An argument after the slot has one of the forms R11 allows: for an unlisted kind only the forms can be checked (log
entry 26). -/
def elemForm (a : Arg) : Bool := (asTerminal a).isSome || (asNum a).isSome

/-- The arguments of ELEM by their forms. The kind is absent when unlisted. -/
def parseElem : List Arg → Option (Nat × Option ElemKind × Kw × Nat × Nat × List (Option Nat) × Option Nat)
  | ea :: ka :: ta :: ba :: sa :: rest =>
    match asId .e ea, asWord ka, asWord ta, asId .b ba, asNum sa with
    | some e, some k, some t, some b, some sl =>
      match elemKindOf k with
      | some kind => (parseTerminals kind.terminals rest).map (fun ts => (e, some kind, t, b, sl, ts.1, ts.2))
      | none => if rest.all elemForm then some (e, none, t, b, sl, [], none) else none
    | _, _, _, _, _ => none
  | _ => none

/-- The first node that two terminals name. -/
def sameNode : List (Option Nat) → Option Nat
  | [] => none
  | none :: t => sameNode t
  | some n :: t => if t.contains (some n) then some n else sameNode t

/-- The first terminal node that others fill, with the lowest-numbered element wired to it (R11, condition 6). -/
def State.wiredFull (s : State) (e : Nat) (ts : List (Option Nat)) : Option Nat :=
  (ts.filterMap id).findSome? (fun n =>
    match tget s.nodes n with
    | some x =>
      let others := (s.wiring n).filter (fun et => et.1 ≠ e)
      if x.kind.wires ≤ others.length then others.head?.map (·.1) else none
    | none => none)

/-- The element is in the move set in flight, or named by a POSN plan (R11, condition 9). -/
def State.elemBusy (s : State) (e : Nat) : Bool :=
  (match s.engine.flight with
   | some f => f.moves.any (fun m => m.elem = e)
   | none => false) ||
    s.plans.any (fun p => match p.posn with
      | some q => q.elem = e
      | none => false)

/-- Conditions 4 to 9 of R11: the refusal, if any. -/
def State.elemRefusal (s : State) (e : Nat) (d : ElemDef) : Option (Code × Val) :=
  match (d.terms.filterMap id).find? (fun n => (tget s.nodes n).isNone) with
  | some n => some (.noId, vNode n)
  | none =>
    match sameNode d.terms with
    | some n => some (.range, vNode n)
    | none =>
      match s.wiredFull e d.terms with
      | some x => some (.inUse, vElem x)
      | none =>
        match tfind s.elems (fun k x => k ≠ e && x.d.bank = d.bank && x.d.slot = d.slot) with
        | some x => some (.inUse, vElem x)
        | none =>
          match tfind s.routes (fun _ r => r.names e) with
          | some r => some (.inUse, vRoute r)
          | none => if s.elemBusy e then some (.inUse, vElem e) else none

/-- The connection lists of an element of a kind, all zero (R112). -/
def State.zeroConns (s : State) (k : ElemKind) : List (List Cdb) := List.replicate k.connections s.zeroLosses

/-- The record an accepted ELEM writes (R12). -/
def State.elemRecord (s : State) (d : ElemDef) (old : Option Element) : Element :=
  let losses := match old with
    | some x => if x.d.kind = d.kind then x.losses else s.zeroConns d.kind
    | none => s.zeroConns d.kind
  let limit := match old with
    | some x => x.wear.limit
    | none => 0
  { d := d, losses := losses, wear := ⟨0, 0, limit, false⟩, pos := none, st := .unknown
    sense := if isSensed s.straps d then some (s.reading d) else none
    counting := none }

/-- The drive an accepted ELEM leaves: unchanged for an element that keeps bank, slot and technology, else none in its old and
its new slot (R12). -/
def State.elemDrive (s : State) (d : ElemDef) (old : Option Element) : State :=
  match old with
  | some x =>
    if x.d.bank = d.bank ∧ x.d.slot = d.slot ∧ x.d.tech = d.tech then s else (s.setDrive x.d .off).setDrive d .off
  | none => s.setDrive d .off

/-- The definition of an accepted ELEM: conditions 2 and 3 of R11 tested. -/
def State.elemDef (s : State) (e : Nat) (kind : Option ElemKind) (t : Kw) (b sl : Nat) (ts : List (Option Nat))
    (safe : Option Nat) : Option ElemDef :=
  match kind, techOfKw t, fin8 b, fin8 sl with
  | some k, some tech, some b, some sl =>
    if inElem e && ts.all (fun x => match x with
        | some n => inNode n
        | none => true) && !(tech = .emf && k ≠ .sp2) && isFitted s.straps b &&
        legalPos k tech (safe.getD (defaultSafe k tech)) then
      some ⟨k, tech, b, sl, ts, safe.getD (defaultSafe k tech)⟩
    else none
  | _, _, _, _ => none

def cmdElem (args : List Arg) (s : State) : Answer :=
  match parseElem args with
  | none => nak .badForm s
  | some (e, kind, t, b, sl, ts, safe) =>
    match s.elemDef e kind t b sl ts safe with
    | none => nak .range s
    | some d =>
      match s.elemRefusal e d with
      | some (c, v) => nakWith c v s
      | none =>
        let old := tget s.elems e
        let s1 := s.elemDrive d old
        okay ({ s1 with elems := tset s1.elems e (s.elemRecord d old) }.markWear)

/-! ### ELEM? (R13) -/

/-- The state's name. -/
def elemStateText : ElemState → String
  | .idle => "IDLE" | .unknown => "UNKNOWN" | .moving _ _ => "MOVING" | .fault => "FAULT"

/-- The claims of an element in ascending order, joined by plus signs. -/
def State.vClaims (s : State) (e : Nat) : Val :=
  vJoin '+' ((s.routes.filter (fun kv => s.held.contains kv.1 && kv.2.names e)).map (fun kv => vRoute kv.1))

def cmdElemQuery (args : List Arg) (s : State) : Answer :=
  oneId .e inElem args s (fun e => defined s.elems e s (fun x =>
    okWith ([vWord (elemKindText x.d.kind), vWord (techText x.d.tech), vId .b x.d.bank.val, vNum x.d.slot.val] ++
      x.d.terms.map (vOpt vNode) ++
      [vNum x.d.safe, vPos x.pos, vWord (elemStateText x.st),
       match x.st with
       | .moving t _ => vNum t
       | _ => [],
       s.vClaims e, vOpt vReading x.sense]) s))

/-! ### POSN (R22, R23) -/

/-- The optional arguments of POSN: the FORCE flag and the profile number. -/
def parsePosnTail : List Arg → Option (Bool × Option Nat)
  | [] => some (false, none)
  | [.one (.word .force)] => some (true, none)
  | [.one (.ident .p k)] => some (false, some k)
  | [.one (.word .force), .one (.ident .p k)] => some (true, some k)
  | _ => none

def parsePosn : List Arg → Option (Nat × Nat × Bool × Option Nat)
  | ea :: pa :: rest =>
    match asId .e ea, asNum pa, parsePosnTail rest with
    | some e, some p, some (f, k) => some (e, p, f, k)
    | _, _, _ => none
  | _ => none

/-- The profile number given, P2 when none is. -/
def posnProfile (k : Option Nat) : Option Profile := profileOf (k.getD 2)

/-- Place an accepted POSN plan with the FORCE marks it carries (R23). -/
def State.placePosn (s : State) (e p : Nat) (force : Bool) (k : Profile) : State :=
  let ms := if force then (s.projectionNames e).map (fun r => (r, MarkKind.force)) else []
  (s.markRoutes s.engine.nextId ms).placePlan ⟨s.engine.nextId, .posn, none, [], ms, some ⟨e, p, force⟩, some k⟩

def cmdPosn (args : List Arg) (s : State) : Answer :=
  match parsePosn args with
  | none => nak .badForm s
  | some (e, p, force, k) =>
    match posnProfile k with
    | none => nak .range s
    | some prof =>
      if !inElem e || 8 < p then nak .range s
      else
        defined s.elems e s (fun x =>
          if !legalPos x.d.kind x.d.tech p || !isFitted s.straps x.d.bank then nak .range s
          else if !s.seqIdle then nak .seqActive s
          else
            match (if force then none else (s.projectionNames e).head?) with
            | some r => nakWith .claimed (vRoute r) s
            | none => if s.queueFull then nak .qfull s else okay (s.placePosn e p force prof))

end Sys2Proof.Machine
end

