-- ==== Sys2Proof/Machine/Guards.lean ====
section
/-! DEFINITION. The commands of chapter 4: GUARD, RFTH, MUTE, MUTE?, SENSE?, and those of chapter 5: SUPPLY?, WEAR LIM, WEAR
CLR, WEAR?. -/

namespace Sys2Proof.Machine

/-! ### GUARD (R83) -/

def cmdGuard (args : List Arg) (s : State) : Answer :=
  match args with
  | [a, b] =>
    match asId .n a, asWord b with
    | some n, some w =>
      match inNode n, guardModeOf w with
      | true, some m =>
        defined s.nodes n s (fun x =>
          if x.kind ≠ .instr then nak .state s
          else if m.needsSense ∧ x.det = none then nak .state s
          else okay { s with nodes := tset s.nodes n { x with guard := some m } })
      | _, _ => nak .range s
    | _, _ => nak .badForm s
  | _ => nak .badForm s

/-! ### RFTH (R84, R85) -/

/-- Judge a detector again after its reading or threshold changed; a change to PRESENT can be a hot event (R84, R85, R93). -/
def State.judgeDetector (s : State) (d : Fin 8) : State :=
  let x := s.guard.dets[d]
  let p := judgeRf x.present x.reading s.settings.threshold[d]
  let s1 := { s with guard := { s.guard with dets := s.guard.dets.set d { x with present := p } } }
  if p && !x.present then s1.rfAppeared d else s1

def cmdRfth (args : List Arg) (s : State) : Answer :=
  match args with
  | [a, b] =>
    match asId .d a, asHalves b with
    | some d, some t =>
      match fin8 d with
      | some d =>
        let v : Int := max (-80) (min 60 t)
        okWith [[.half v]]
          ({ s with settings := { s.settings with threshold := s.settings.threshold.set d v } }.judgeDetector d)
      | none => nak .range s
    | _, _ => nak .badForm s
  | _ => nak .badForm s

/-! ### MUTE, MUTE?, SENSE? (R86, R90) -/

def cmdMute (args : List Arg) (s : State) : Answer :=
  match args with
  | [a] =>
    match asNum a with
    | some t =>
      let v := storedTime 1000 2000000 t
      okWith [vNum v] { s with settings := { s.settings with mute := v } }
    | none => nak .badForm s
  | _ => nak .badForm s

def cmdMuteQuery (args : List Arg) (s : State) : Answer := noArgs args s (okWith [vNum s.settings.mute] s)

def cmdSenseQuery (args : List Arg) (s : State) : Answer :=
  match args with
  | [a] =>
    match asId .d a with
    | some d =>
      match fin8 d with
      | some d =>
        okWith [[.half s.guard.dets[d].reading], vWord (if s.guard.dets[d].present then "PRESENT" else "ABSENT"),
          [.half s.settings.threshold[d]], vOpt vNode (tfind s.nodes (fun _ x => x.det = some d))] s
      | none => nak .range s
    | none => nak .badForm s
  | _ => nak .badForm s

/-! ### SUPPLY? (R104) -/

/-- The time left on the hold clock. -/
def State.vHold (s : State) : Val :=
  match s.engine.flight.bind (·.holdLimit) with
  | some t => vNum (roundUp10 (t - s.now))
  | none => []

def cmdSupplyQuery (args : List Arg) (s : State) : Answer :=
  noArgs args s (okWith [vWord (supplyText s.supply.st), vNum s.supply.reading, s.vHold] s)

/-! ### WEAR LIM, WEAR CLR, WEAR? (R108 to R110) -/

/-- Change an element's wear fields. -/
def State.modWear (s : State) (e : Nat) (f : Wear → Wear) : State := s.modElem e (fun x => { x with wear := f x.wear })

/-- WEAR LIM (R107, R108). The wear-changed mark is set also when every wear field stands as it was (R205; DEDUCED, log entry
42). -/
def cmdWearLim (args : List Arg) (s : State) : Answer :=
  match args with
  | [a, b] =>
    match asId .e a, asNum b with
    | some e, some n =>
      if inElem e && n ≤ 99999999 then
        defined s.elems e s (fun _ =>
          okay (((s.modWear e (fun w => { w with limit := n, warned := false })).markWear).lifeTest e))
      else nak .range s
    | _, _ => nak .badForm s
  | _ => nak .badForm s

/-- WEAR CLR (R109). The wear-changed mark is set also when every wear field stands as it was (R205; DEDUCED, log entry 42). -/
def cmdWearClr (args : List Arg) (s : State) : Answer :=
  oneId .e inElem args s (fun e => defined s.elems e s (fun _ =>
    okay (s.modWear e (fun w => { w with life := 0, hot := 0, warned := false })).markWear))

def cmdWearQuery (args : List Arg) (s : State) : Answer :=
  oneId .e inElem args s (fun e => defined s.elems e s (fun x =>
    okWith [vNum x.wear.life, vNum x.wear.hot, vNum x.wear.limit, vFlag "WARNED" x.wear.warned] s))

end Sys2Proof.Machine
end

