-- ==== Sys2Proof/Machine/Loss.lean ====
section
/-! DEFINITION. The commands of chapter 6: FREQ, FREQ?, LOSS E, LOSS N, LOSS?. -/

namespace Sys2Proof.Machine

/-! ### FREQ (R114, R115) -/

/-- Frequencies strictly ascending. -/
def ascending : List Nat → Bool
  | a :: b :: t => a < b && ascending (b :: t)
  | _ => true

/-- A frequency in MHz. -/
def inFreq (f : Nat) : Bool := 1 ≤ f ∧ f ≤ 100000

/-- A new grid: every list becomes as many zeros as it has points (R114). -/
def State.setGrid (s : State) (grid : List Nat) : State :=
  let z := List.replicate grid.length 0
  { s with
    settings := { s.settings with grid := grid }
    elems := s.elems.map (fun kv => (kv.1, { kv.2 with losses := List.replicate kv.2.d.kind.connections z }))
    nodes := s.nodes.map (fun kv => (kv.1, { kv.2 with losses := if kv.2.kind = .inner then z else [] })) }

def cmdFreq (args : List Arg) (s : State) : Answer :=
  match asAll asNum args with
  | none => nak .badForm s
  | some fs =>
    if fs ≠ [] && fs.length ≤ 8 && fs.all inFreq && ascending fs then okWith [vNum fs.length] (s.setGrid fs)
    else nak .range s

def cmdFreqQuery (args : List Arg) (s : State) : Answer :=
  noArgs args s (okWith (vNum s.settings.grid.length :: s.settings.grid.map vNum) s)

/-! ### LOSS E and LOSS N (R116, R117) -/

/-- Conditions 6 and 7 of R116: the refusal of a list of values, if any. -/
def State.valuesRefusal (s : State) (vs : List Nat) : Option (Code × Val) :=
  if vs.length ≠ s.settings.grid.length then some (.badForm, vNum s.settings.grid.length)
  else (vs.findIdx? (fun v => 3000 < v)).map (fun i => (.range, vNum (i + 1)))

/-- Write the loss list of one connection. -/
def putConn (c : Nat) (vs : List Nat) (x : Element) : Element := { x with losses := x.losses.set (c - 1) vs }

def cmdLossE (args : List Arg) (s : State) : Answer :=
  match args with
  | ea :: ca :: va :: rest =>
    match asId .e ea, asNum ca, asAll asNum (va :: rest) with
    | some e, some c, some vs =>
      if inElem e && (1 ≤ c && c ≤ 8) then
        defined s.elems e s (fun x =>
          if x.d.kind.connections < c then nak .range s
          else
            match s.valuesRefusal vs with
            | some (k, v) => nakWith k v s
            | none => okay (s.modElem e (putConn c vs)))
      else nak .range s
    | _, _, _ => nak .badForm s
  | _ => nak .badForm s

def cmdLossN (args : List Arg) (s : State) : Answer :=
  match args with
  | na :: va :: rest =>
    match asId .n na, asAll asNum (va :: rest) with
    | some n, some vs =>
      if inNode n then
        defined s.nodes n s (fun x =>
          if x.kind ≠ .inner then nak .state s
          else
            match s.valuesRefusal vs with
            | some (k, v) => nakWith k v s
            | none => okay { s with nodes := tset s.nodes n { x with losses := vs } })
      else nak .range s
    | _, _ => nak .badForm s
  | _ => nak .badForm s

/-! ### LOSS? (R120) -/

def cmdLossRoute (args : List Arg) (s : State) : Answer :=
  match args with
  | [pa, fa] =>
    match asId .p pa, asNum fa with
    | some p, some f =>
      if inRoute p && inFreq f then
        defined s.routes p s (fun r => okWith [vNum (s.routeLoss r f), vNum (2 * r.d.hops.length - 1)] s)
      else nak .range s
    | _, _ => nak .badForm s
  | _ => nak .badForm s

def cmdLossElem (args : List Arg) (s : State) : Answer :=
  match args with
  | [ea, ca] =>
    match asId .e ea, asNum ca with
    | some e, some c =>
      if inElem e && (1 ≤ c && c ≤ 8) then
        defined s.elems e s (fun x =>
          if x.d.kind.connections < c then nak .range s else okWith ((s.connLosses e c).map vNum) s)
      else nak .range s
    | _, _ => nak .badForm s
  | _ => nak .badForm s

def cmdLossNode (args : List Arg) (s : State) : Answer :=
  oneId .n inNode args s (fun n => defined s.nodes n s (fun x =>
    if x.kind ≠ .inner then nak .state s else okWith (x.losses.map vNum) s))

def cmdLossQuery (kw : Option Kw) (args : List Arg) (s : State) : Answer :=
  match kw with
  | none => cmdLossRoute args s
  | some .e => cmdLossElem args s
  | some .n => cmdLossNode args s
  | _ => nak .badForm s

end Sys2Proof.Machine
end

