-- ==== Sys2Proof/Machine/StoreOps.lean ====
section
/-! DEFINITION. The Image Store's operations: the save copy, the flush, reading the image, and replacing the tables at a start
or by LOAD (chapter 11 and the start rules of every chapter). -/

namespace Sys2Proof.Machine

/-! ### The save copy (R201, R203) -/

/-- Every item of R201 as it stands. -/
def State.tables (s : State) : Tables where
  nodes := s.nodes
  elems := s.elems.map (fun kv => (kv.1, ⟨kv.2.d, kv.2.losses, kv.2.wear⟩))
  routes := s.routes.map (fun kv => (kv.1, kv.2.d))
  settings := s.settings

/-- The wear fields of every defined element. -/
def State.wearTable (s : State) : Table Wear := s.elems.map (fun kv => (kv.1, kv.2.wear))

/-- A write of the table section begins (R203): the section is invalid from this moment. -/
def State.startSave (s : State) : State :=
  { s with store := { s.store with
      image := { s.store.image with table := none, saveNo := s.store.image.saveNo + 1, writes := s.store.image.writes + 1 }
      st := .saving s.tables s.now
      cond := .writing
      mark := false
      clock := .absent } }

/-! ### The flush (R205, R206) -/

/-- The newest valid slot, slot B when true, with its flush number. -/
def Image.newest (im : Image) : Option (Bool × Nat) :=
  match im.slotA, im.slotB with
  | none, none => none
  | some a, none => some (false, a.flushNo)
  | none, some b => some (true, b.flushNo)
  | some a, some b => if a.flushNo < b.flushNo then some (true, b.flushNo) else some (false, a.flushNo)

/-- The slot a flush writes and the number it writes: the slot without the newest valid copy, one above its number. With no
valid slot, slot A and number 1 (log entry 14). -/
def Image.flushTarget (im : Image) : Bool × Nat :=
  match im.newest with
  | some (b, n) => (!b, n + 1)
  | none => (false, 1)

/-- Put a value into one of the two slots. -/
def Image.setSlot (im : Image) (toB : Bool) (w : Option WearSlot) : Image :=
  if toB then { im with slotB := w } else { im with slotA := w }

/-- A flush begins (R205): its slot is invalid until the write ends. -/
def State.startFlush (s : State) : State :=
  let t := s.store.image.flushTarget
  let no := match s.store.image.table with
    | some sec => sec.saveNo
    | none => s.store.image.saveNo
  { s with store := { s.store with
      image := { s.store.image.setSlot t.1 none with writes := s.store.image.writes + 1 }
      st := .flushing t.1 ⟨s.wearTable, no, t.2⟩ s.now
      mark := false
      clock := .absent } }

/-- A flush would be made now: the mark is set and the image GOOD. -/
def Store.flushWanted (st : Store) : Bool := st.mark && st.cond = .good

/-- A waiting flush when the store is free: made, cancelled or skipped; its clock is cleared in any case (R205, R206). -/
def State.dueFlush (s : State) : State :=
  if s.store.clock = .due then
    if s.store.flushWanted then s.startFlush else { s with store := { s.store with clock := .absent } }
  else s

/-- The final flush request when the store is free (R209). -/
def State.finalFlush (s : State) : State :=
  if s.link.stop = some .waiting then
    if s.store.st ≠ .idle then { s with link := { s.link with stop := some .running } }
    else if s.store.flushWanted then { s.startFlush with link := { s.link with stop := some .running } }
    else { s with link := { s.link with stop := some .ended } }
  else s

/-- The store has become free, or a flush has fallen due. -/
def State.storeFree (s : State) : State :=
  if s.store.st = .idle then s.dueFlush.finalFlush else s

/-! ### Reading the image (R202) -/

/-- The wear slot that belongs to a table section: of two, the one with the higher flush number. -/
def Image.wearFor (im : Image) (saveNo : Nat) : Option WearSlot :=
  let a := im.slotA.filter (fun w => w.saveNo = saveNo)
  let b := im.slotB.filter (fun w => w.saveNo = saveNo)
  match a, b with
  | some x, some y => if x.flushNo < y.flushNo then some y else some x
  | some x, none => some x
  | none, y => y

/-- The tables of a good image, wear fields taken from the slot that belongs to it; absent when the image is BAD. A LOAD reads
thresholds so too, for elements it keeps (DESIGN CHOICE, log entry 37). -/
def Image.read (im : Image) : Option Tables :=
  match im.table with
  | none => none
  | some sec =>
    match im.wearFor sec.saveNo with
    | none => some sec.tables
    | some w => some { sec.tables with
        elems := sec.tables.elems.map (fun kv => (kv.1, { kv.2 with wear := (tget w.wear kv.1).getD kv.2.wear })) }

/-- What a start with a bad image takes. -/
def Tables.empty : Tables := ⟨[], [], [], .defaults⟩

/-! ### A start (R24, R48, R81, R97, R105, R155, R177, R190, R200, R209, R210) -/

/-- The machine at the beginning of a start: every block drops its work, drive is removed, outputs go low. What remains is the
non-volatile memory, the levels of the inputs, and the moment. -/
def State.beginStart (s : State) (l : Life) : State where
  pending := s.pending
  now := s.now
  life := l
  resetLine := s.resetLine
  straps := s.straps
  nodes := []
  elems := []
  senseLines := s.senseLines
  routes := []
  held := []
  settings := .defaults
  engine := .blank
  guard := ⟨s.guard.dets, s.guard.quiet, false, false, false, none⟩
  supply := s.supply
  seq := none
  timers := ⟨s.timers.ins, Vector.replicate 4 .off, ⟨.stopped, 10000, false⟩, .stopped 0, .stopped, .empty⟩
  link := .blank
  notices := []
  store := ⟨s.store.image, .idle, .bad, false, false, .absent⟩

/-- The condition a defined element takes at a start (R24). -/
def startElement (straps : Straps) (reading : ElemDef → Reading) (x : ElemImage) : Element :=
  let base : Element := ⟨x.d, x.losses, x.wear, none, .unknown, none, none⟩
  if !isFitted straps x.d.bank then { base with st := .fault }
  else if isSensed straps x.d then
    match reading x.d with
    | .pos p => { base with pos := some p, st := .idle, sense := some (.pos p) }
    | .nothing => { base with sense := some .nothing }
  else
    match x.d.tech, x.d.kind with
    | .eml, _ => base
    | .emf, _ => { base with pos := some 1, st := .idle }
    | .ss, .xfer => { base with pos := some 1, st := .idle }
    | .ss, _ => { base with pos := some 0, st := .idle }

/-- Every RF state judged afresh (R97). -/
def judgeAllFresh (ds : Vector Detector 8) (ths : Vector HalfDb 8) : Vector Detector 8 :=
  ds.zipWith (fun d th => { d with present := judgeRfFresh d.reading th }) ths

/-- Every RF state judged again against a new threshold (R85, R97). -/
def judgeAll (ds : Vector Detector 8) (ths : Vector HalfDb 8) : Vector Detector 8 :=
  ds.zipWith (fun d th => { d with present := judgeRf d.present d.reading th }) ths

/-- Route records for the definitions read, derived from the nodes and elements standing (R48, R49). -/
def State.freshRoutes (s : State) (rs : Table RouteDef) : Table Route := rs.map (fun kv => (kv.1, s.freshRoute kv.2))

/-- Start-up completes (R210, R211): the straps are read, the image taken, conditions judged, and the START notice queued. DESIGN
CHOICE (log entry 45): sense lines, detectors, supply and trigger inputs are read as they stand at this end of the 200 ms. -/
def State.completeStart (s : State) (k : StartKind) (straps : Straps) : State :=
  let good := s.store.image.read.isSome
  let t := s.store.image.read.getD .empty
  let s1 : State := { s with
    now := 0
    life := .running
    straps := straps
    nodes := t.nodes
    elems := t.elems.map (fun kv => (kv.1, startElement straps s.reading kv.2))
    settings := t.settings
    guard := { s.guard with dets := judgeAllFresh s.guard.dets t.settings.threshold }
    supply := ⟨s.supply.reading, freshSupply s.supply.reading⟩
    timers := { s.timers with
      ins := s.timers.ins.map (fun x => ⟨x.raw, x.raw, none⟩)
      pace := ⟨.stopped, t.settings.pace.count, false⟩ }
    store := { s.store with cond := if good then .good else .bad, found := good }
    notices := [⟨.start, 0, [.word (startText k)], [.word (goodBad good)]⟩] }
  { s1 with routes := s1.freshRoutes t.routes }

/-! ### LOAD (R25, R49, R97, R111, R178, R208) -/

/-- An element's recorded position and state are kept by a LOAD: same kind and technology, on a fitted bank (R25). -/
def loadKeeps (straps : Straps) (old : Element) (x : ElemImage) : Bool :=
  old.d.kind = x.d.kind && old.d.tech = x.d.tech && isFitted straps x.d.bank

/-- The element stays in its slot. -/
def sameSlot (a b : ElemDef) : Bool := a.bank = b.bank && a.slot = b.slot

/-- The wear fields of an element defined before and after a LOAD (R111); its threshold is the one `Image.read` gives (log entry
37). -/
def loadWear (live image : Wear) : Wear :=
  ⟨live.life, live.hot, image.limit, if live.limit = image.limit then live.warned else false⟩

/-- A report that differs from the sense reading starts its count (R19). -/
def countFrom (now : Micros) (sense report : Reading) : Option (Reading × Micros) :=
  if report = sense then none else some (report, now + Config.steadyTime)

/-- An element newly conditioned by a LOAD (R25). -/
def loadFresh (straps : Straps) (reading : ElemDef → Reading) (x : ElemImage) (w : Wear) : Element :=
  { d := x.d, losses := x.losses, wear := w, pos := none
    st := if isFitted straps x.d.bank then .unknown else .fault
    sense := if isSensed straps x.d then some (reading x.d) else none
    counting := none }

/-- An element after a LOAD (R25, R111; log entry 19). -/
def loadElement (now : Micros) (straps : Straps) (reading : ElemDef → Reading) (old : Option Element) (x : ElemImage) :
    Element :=
  match old with
  | none => loadFresh straps reading x x.wear
  | some o =>
    let w := loadWear o.wear x.wear
    if loadKeeps straps o x then
      let sense := if isSensed straps x.d then some (o.sense.getD (reading x.d)) else none
      { d := x.d, losses := x.losses, wear := w, pos := o.pos, st := o.st, sense := sense
        counting := if sameSlot o.d x.d then o.counting else sense.bind (fun r => countFrom now r (reading x.d)) }
    else loadFresh straps reading x w

/-- The drive of an element's slot after a LOAD (R25). -/
def loadDrive (straps : Straps) (drive : Vector SlotDrive 64) (old : Option Element) (x : ElemImage) : SlotDrive :=
  match old with
  | some o =>
    if loadKeeps straps o x then
      if sameSlot o.d x.d then drive[x.d.slotIndex]
      else match o.pos with
        | some p => restDrive x.d.tech p
        | none => .off
    else .off
  | none => .off

/-- The elements whose threshold a LOAD changes, in ascending order (R111). -/
def State.limitChanged (s : State) (es : Table ElemImage) : List Nat :=
  es.filterMap (fun kv =>
    match tget s.elems kv.1 with
    | some o => if o.wear.limit = kv.2.wear.limit then none else some kv.1
    | none => none)

/-- Replace every item of R201 from tables read. -/
def State.loadTables (s : State) (t : Tables) : State :=
  let drive := t.elems.foldl
    (fun v kv => v.set kv.2.d.slotIndex (loadDrive s.straps s.engine.drive (tget s.elems kv.1) kv.2))
    (Vector.replicate 64 SlotDrive.off)
  let s1 : State := { s with
    nodes := t.nodes
    elems := t.elems.map (fun kv => (kv.1, loadElement s.now s.straps s.reading (tget s.elems kv.1) kv.2))
    settings := t.settings
    engine := { s.engine with drive := drive }
    guard := { s.guard with dets := judgeAll s.guard.dets t.settings.threshold }
    timers := { s.timers with
      ins := s.timers.ins.map (fun x => ⟨x.raw, x.raw, none⟩)
      pace := { s.timers.pace with loaded := t.settings.pace.count } } }
  let s2 := { s1 with routes := s1.freshRoutes t.routes }
  (s.limitChanged t.elems).foldl State.lifeTest s2

end Sys2Proof.Machine
end

