-- ==== Sys2Proof/Machine/StoreCommands.lean ====
section
/-! DEFINITION. The commands of chapter 11: SAVE, LOAD, STORE?, RESET. -/

namespace Sys2Proof.Machine

/-- SAVE (R203). -/
def cmdSave (args : List Arg) (s : State) : Answer :=
  noArgs args s (if s.store.st ≠ .idle then nak .busy s else okay s.startSave)

/-- LOAD (R208). -/
def cmdLoad (args : List Arg) (s : State) : Answer :=
  noArgs args s
    (if s.store.st ≠ .idle then nak .busy s
     else if s.seqIdle = false ∨ s.engine.waiting ≠ [] ∨ s.engine.flight.isSome ∨ s.held ≠ [] ∨ s.store.cond ≠ .good then
       nak .state s
     else
       match s.store.image.read with
       | some t => okay (s.loadTables t)
       | none => nak .state s)

def imageCondText : ImageCond → String
  | .good => "GOOD" | .bad => "BAD" | .writing => "WRITING"

def storeText : StoreState → String
  | .idle => "IDLE" | .saving _ _ => "SAVING" | .flushing _ _ _ => "FLUSHING"

/-- The time to the flush clock's expiry (R207). -/
def State.vClock (s : State) : Val :=
  match s.store.clock with
  | .absent => []
  | .running t => vNum (roundUp10 (t - s.now))
  | .due => vNum 0

/-- STORE? (R207). -/
def cmdStoreQuery (args : List Arg) (s : State) : Answer :=
  noArgs args s
    (okWith [vWord (storeText s.store.st), vWord (goodBad s.store.found), vWord (imageCondText s.store.cond), s.vClock] s)

/-- RESET (R189, R209): the interpreter stop is set and the final flush asked for. -/
def cmdReset (s : State) : Answer := okay ({ s with link := { s.link with stop := some .waiting } }.storeFree)

end Sys2Proof.Machine
end

