-- ==== Sys2Proof/Machine/Notices.lean ====
section
/-! DEFINITION. The commands of chapter 10: NOTE?, ATTN, STAT?, IDENT?. -/

namespace Sys2Proof.Machine

/-! ### NOTE? (R195) -/

def cmdNoteQuery (args : List Arg) (s : State) : Answer :=
  noArgs args s
    (match s.notices with
     | n :: q => (.note n, { s with notices := q })
     | [] => (.noNote, s))

/-! ### ATTN (R197) -/

/-- ATTN: RANGE for any one argument other than ON and OFF, whatever its form. -/
def cmdAttn (args : List Arg) (s : State) : Answer :=
  match args with
  | [a] =>
    match asWord a with
    | some .on => okWith [vWord "ON"] { s with settings := { s.settings with attn := true } }
    | some .off => okWith [vWord "OFF"] { s with settings := { s.settings with attn := false } }
    | _ => nak .range s
  | _ => nak .badForm s

/-! ### STAT? (R198) -/

def State.vFlight (s : State) : Val :=
  match s.engine.flight with
  | some f => vJoin ':' [vWord (planKindText f.plan.kind), vWord (phaseText f.phase)]
  | none => []

def State.vOverrun (s : State) : Val :=
  if s.link.overrun then vJoin ':' [vWord "OVR", vNum s.link.overruns] else []

def cmdStatQuery (args : List Arg) (s : State) : Answer :=
  noArgs args s
    (okWith [vWord (seqStateText s.seqState), vNum s.engine.waiting.length, s.vFlight, vNum s.held.length,
      vWord (supplyText s.supply.st), vWord (storeText s.store.st), vWord (onOff s.guard.inhibit),
      vWord (highLow s.guard.quiet), vNum s.notices.length, s.vOverrun]
      { s with link := { s.link with overrun := false, overruns := 0 } })

/-! ### IDENT? (R199) -/

/-- The hardware letter and the firmware numbers are free values (log entry 12). -/
def vHardware : Val := vWord (String.ofList [Char.ofNat (65 + Config.hardwareLetter.val)])

def vFirmware : Val := vJoin '.' [vNum Config.firmwareMajor, vNum Config.firmwareMinor]

def cmdIdentQuery (args : List Arg) (s : State) : Answer :=
  noArgs args s
    (okWith [vWord "PAZOREL IROUMA CPC-64", vHardware, vFirmware, vNum s.straps.addr.val, vBanks s.straps.fitted,
      vBanks s.straps.sensed, vNum (baudRate s.straps.baud)] s)

end Sys2Proof.Machine
end

