-- ==== Sys2Proof/Machine/Steps.lean ====
section
/-! DEFINITION. The commands of chapter 7 on steps and lists: STEP, STEP?, SDEL, LIST, LIST?, LDEL. -/

namespace Sys2Proof.Machine

/-! ### STEP (R125, R126)

Each field is read by its form; inside the form, an absent value is one outside its range. -/

def asSource : Arg → Option (Option Source)
  | .one (.ident .ti i) => some ((fin4 i).map .ti)
  | .one (.word .pace) => some (some .pace)
  | .one (.word .soft) => some (some .soft)
  | .one (.word .auto) => some (some .auto)
  | .one (.word _) => some none
  | _ => none

def asOverride : Arg → Option (Option (Option Profile))
  | .one (.word .route) => some (some none)
  | .one (.word _) => some none
  | .one (.ident .p k) => some ((profileOf k).map some)
  | _ => none

def asAction : Arg → Option (Option (Option OutAction))
  | .one .hyphen => some (some none)
  | .pair (.ident .to o) (.word w) =>
      some (match fin4 o, w with
        | some o, .ready => some (some ⟨o, true⟩)
        | some o, .atEnd => some (some ⟨o, false⟩)
        | _, _ => none)
  | _ => none

def asReport : Arg → Option Bool
  | .one (.word .rep) => some true
  | .one .hyphen => some false
  | _ => none

def asOp : Arg → Option (Option StepOp)
  | .pair (.word w) (.ident .p p) =>
      some (match opKindOf w with
        | some k => if inRoute p then some ⟨k, p⟩ else none
        | none => none)
  | _ => none

/-- Every value of a list present. -/
def allSome {α : Type} : List (Option α) → Option (List α)
  | [] => some []
  | none :: _ => none
  | some x :: t => (allSome t).map (x :: ·)

/-- A step's record from fields in range (condition 2 of R125), its dwells rounded and clamped (R126). -/
def stepRecord (src : Option Source) (sel : Option DwellSel) (dA dB : Nat) (ovr : Option (Option Profile))
    (act : Option (Option OutAction)) (rep : Bool) (ops : List (Option StepOp)) : Option StepRec :=
  match src, sel, ovr, act, allSome ops with
  | some src, some sel, some ovr, some act, some ops =>
    if ops.length ≤ 4 then some ⟨ops, src, storedTime 0 10000000 dA, storedTime 0 10000000 dB, sel, ovr, act, rep⟩ else none
  | _, _, _, _, _ => none

/-- The arguments of STEP: the step, and its record when every field is in range. -/
def parseStep : List Arg → Option (Nat × Option StepRec)
  | sa :: srca :: sela :: da :: db :: ova :: aca :: rea :: op :: ops =>
    match asId .s sa, asSource srca, asWord sela, asNum da, asNum db, asOverride ova, asAction aca, asReport rea,
      asAll asOp (op :: ops) with
    | some n, some src, some sel, some dA, some dB, some ovr, some act, some rep, some ops =>
      some (n, stepRecord src (dwellSelOf sel) dA dB ovr act rep ops)
    | _, _, _, _, _, _, _, _, _ => none
  | _ => none

/-- Conditions 3 to 5 of R125. -/
def State.stepRefusal (s : State) (st : StepRec) : Option (Code × Val) :=
  if !s.seqIdle then some (.seqActive, [])
  else
    match st.ops.find? (fun o => (tget s.routes o.route).isNone) with
    | some o => some (.noId, vRoute o.route)
    | none => (opsTest s.conflicts st.ops).map (fun p => (.conflict, vRoute p))

def State.setStep (s : State) (n : Nat) (st : StepRec) : State :=
  { s with settings := { s.settings with steps := tset s.settings.steps n st } }

def cmdStep (args : List Arg) (s : State) : Answer :=
  match parseStep args with
  | none => nak .badForm s
  | some (n, st) =>
    match inStep n, st with
    | true, some st =>
      match s.stepRefusal st with
      | some (c, v) => nakWith c v s
      | none => okWith [vNum st.dwellA, vNum st.dwellB] (s.setStep n st)
    | _, _ => nak .range s

/-! ### STEP? and SDEL (R127, R128) -/

def dwellSelText : DwellSel → String
  | .a => "A" | .b => "B" | .pat => "PAT"

def vOverride : Option Profile → Val
  | none => vWord "ROUTE"
  | some p => vProfile p

def vAction (a : OutAction) : Val := vJoin ':' [vId .to a.out.val, vWord (if a.atReady then "READY" else "END")]

def cmdStepQuery (args : List Arg) (s : State) : Answer :=
  oneId .s inStep args s (fun n => defined s.settings.steps n s (fun st =>
    okWith ([vSource st.src, vWord (dwellSelText st.sel), vNum st.dwellA, vNum st.dwellB, vOverride st.ovr,
      vOpt vAction st.act, vFlag "REP" st.rep] ++
      st.ops.map (fun o => vJoin ':' [vWord (opKindText o.kind), vRoute o.route])) s))

def cmdSdel (args : List Arg) (s : State) : Answer :=
  oneId .s inStep args s (fun n => defined s.settings.steps n s (fun _ =>
    if !s.seqIdle then nak .seqActive s
    else okay { s with settings := { s.settings with steps := tdel s.settings.steps n } }))

/-! ### LIST, LIST?, LDEL (R130 to R132) -/

def asTriggerPolicy (a : Arg) : Option (Option Bool) :=
  (asWord a).map (fun w => match w with
    | .latch => some true
    | .drop => some false
    | _ => none)

def asLatePolicy (a : Arg) : Option (Option Bool) :=
  (asWord a).map (fun w => match w with
    | .force => some true
    | .halt => some false
    | _ => none)

/-- The optional report frequency: absent, or a number. -/
def parseFreq : List Arg → Option (Option Nat)
  | [] => some none
  | [a] => (asNum a).map some
  | _ => none

/-- The record of a list in range, its window values rounded and clamped. -/
def listRecord (first last passes pattern : Nat) (tp lp : Option Bool) (we wl : Nat) (freq : Option Nat) : Option ListRec :=
  match tp, lp with
  | some tp, some lp =>
    if inStep first && inStep last && first ≤ last && passes ≤ 65535 && pattern ≤ 65535 &&
        (match freq with
         | some f => 1 ≤ f && f ≤ 100000
         | none => true) then
      some ⟨first, last, passes, pattern, tp, lp, storedTime 0 10000000 we, storedTime 0 10000000 wl, freq⟩
    else none
  | _, _ => none

/-- The arguments of LIST: the list, and its record when every field is in range. -/
def parseList : List Arg → Option (Nat × Option ListRec)
  | la :: fa :: ta :: pa :: qa :: tpa :: lpa :: wea :: wla :: rest =>
    match asId .l la, asId .s fa, asId .s ta, asNum pa, asNum qa, asTriggerPolicy tpa, asLatePolicy lpa, asNum wea,
      asNum wla, parseFreq rest with
    | some l, some f, some t, some p, some q, some tp, some lp, some we, some wl, some fr =>
      some (l, listRecord f t p q tp lp we wl fr)
    | _, _, _, _, _, _, _, _, _, _ => none
  | _ => none

def State.setList (s : State) (l : Nat) (r : ListRec) : State :=
  { s with settings := { s.settings with lists := tset s.settings.lists l r } }

def cmdList (args : List Arg) (s : State) : Answer :=
  match parseList args with
  | none => nak .badForm s
  | some (l, r) =>
    match inList l, r with
    | true, some r =>
      if !s.seqIdle then nak .seqActive s
      else if r.late ≠ 0 ∧ r.late ≤ r.early then nak .range s
      else okWith [vNum r.early, vNum r.late] (s.setList l r)
    | _, _ => nak .range s

def cmdListQuery (args : List Arg) (s : State) : Answer :=
  oneId .l inList args s (fun l => defined s.settings.lists l s (fun r =>
    okWith [vStep r.first, vStep r.last, vNum r.passes, vNum r.pattern, vWord (if r.latch then "LATCH" else "DROP"),
      vWord (if r.lateForce then "FORCE" else "HALT"), vNum r.early, vNum r.late, vOpt vNum r.freq] s))

def cmdLdel (args : List Arg) (s : State) : Answer :=
  oneId .l inList args s (fun l => defined s.settings.lists l s (fun _ =>
    if !s.seqIdle then nak .seqActive s
    else okay { s with settings := { s.settings with lists := tdel s.settings.lists l } }))

end Sys2Proof.Machine
end

