-- ==== Sys2Proof/Machine/Sequencer.lean ====
section
/-! DEFINITION. The commands of chapter 7 on the sequencer: ARM, GO, HALT, RESUME, ABORT, SEQ?. -/

namespace Sys2Proof.Machine

/-! ### ARM (R135) -/

/-- The lowest undefined step of a range. -/
def State.missingStep (s : State) (l : ListRec) : Option Nat :=
  ((List.range 256).filter (fun n => l.first ≤ n ∧ n ≤ l.last)).find? (fun n => (tget s.settings.steps n).isNone)

/-- Every step of a range has source AUTO. -/
def State.allAuto (s : State) (l : ListRec) : Bool :=
  s.settings.steps.all (fun kv => !(l.first ≤ kv.1 && kv.1 ≤ l.last) || kv.2.src = .auto)

/-- Arm a list (R135, R165, R176). -/
def State.armList (s : State) (l : Nat) (r : ListRec) : State :=
  let s1 := { s with timers := { s.timers with latch := .empty } }
  s1.startPace.makeCurrent ⟨l, r.first, 0, .waiting, none, none⟩

def cmdArm (args : List Arg) (s : State) : Answer :=
  oneId .l inList args s (fun l => defined s.settings.lists l s (fun r =>
    if !s.seqIdle then nak .state s
    else if s.engine.waiting ≠ [] ∨ s.engine.flight.isSome then nak .state s
    else
      match s.missingStep r with
      | some n => nakWith .noId (vStep n) s
      | none => if r.passes = 0 ∧ s.allAuto r then nak .range s else okay (s.armList l r)))

/-! ### GO (R141) -/

/-- GO is an advance event of source SOFT; its arguments are disregarded. -/
def cmdGo (s : State) : Answer := if s.seqIdle then nak .state s else okay (s.advanceEvent .soft)

/-! ### HALT (R148) -/

/-- Freeze the dwell timer with the time remaining (R148, R172). -/
def State.freezeDwell (s : State) : State :=
  { s with timers := { s.timers with dwell := .frozen s.dwellRemaining } }

/-- HALT by the state in which it is interpreted; absent when it does not apply. -/
def State.haltRun (s : State) : Option State :=
  match s.seq with
  | none => none
  | some r =>
    match r.mode with
    | .waiting => some ((s.stopWindow s.windowElapsed).enterHalted r .wait "HALT")
    | .switching b none => some { s with seq := some { r with mode := .switching b (some .halt) } }
    | .switching _ _ => none
    | .dwell => some (s.freezeDwell.enterHalted r .dwellRemaining "HALT")
    | .halted _ => none

/-- HALT with arguments: an addressed one is refused SYNTAX, a broadcast one disregards them (R182; log entry 7). -/
def cmdHalt (via : Via) (args : List Arg) (s : State) : Answer :=
  if via = .addressed ∧ args ≠ [] then nak .badForm s
  else
    match s.haltRun with
    | some t => okay t
    | none => nak .state s

/-! ### RESUME (R150) -/

/-- Continue at the resume point; outputs run on (R150, R162). -/
def State.resumeRun (s : State) (r : Run) (p : ResumePoint) : State :=
  let s1 := s.thawOuts
  match p with
  | .wait => s1.enterWaiting r
  | .dwell => s1.beginDwell r
  | .dwellRemaining =>
    if s1.dwellRemaining = 0 then s1.stepEnd r
    else ({ s1 with seq := some { r with mode := .dwell } }).loadDwell s1.dwellRemaining
  | .retry => s1.enterSwitching r

/-- RESUME; any argument is refused SYNTAX before the state is looked at (DEDUCED, log entry 7). -/
def cmdResume (args : List Arg) (s : State) : Answer :=
  noArgs args s
    (match s.seq with
     | some r =>
       match r.mode with
       | .halted p => okay (s.resumeRun r p)
       | _ => nak .state s
     | none => nak .state s)

/-! ### ABORT (R151) -/

/-- ABORT; any argument is refused SYNTAX before the state is looked at (DEDUCED, log entry 7). -/
def cmdAbort (args : List Arg) (s : State) : Answer :=
  noArgs args s
    (match s.seq with
     | none => nak .state s
     | some r =>
       match r.mode with
       | .switching _ (some .abort) => nak .state s
       | .switching b _ => okay { s with seq := some { r with mode := .switching b (some .abort) } }
       | _ => okay (s.endRun "ABORT"))

/-! ### SEQ? (R153) -/

def resumeText : ResumePoint → String
  | .wait => "WAIT" | .dwell => "DWELL" | .dwellRemaining => "DWELL-REMAINING" | .retry => "RETRY"

def Run.vResume (r : Run) : Val :=
  match r.mode with
  | .halted p => vWord (resumeText p)
  | _ => []

def Run.vDue (r : Run) : Val :=
  match r.mode with
  | .switching _ (some .halt) => vWord "HALT"
  | .switching _ (some .abort) => vWord "ABORT"
  | _ => []

def Run.vTrigger (r : Run) : Val :=
  match r.trigger with
  | some (src, t) => vJoin ':' [vSource src, vNum t]
  | none => []

def cmdSeqQuery (args : List Arg) (s : State) : Answer :=
  noArgs args s
    (match s.seq with
     | none => okWith [vWord "IDLE", [], [], [], [], [], []] s
     | some r =>
       okWith [vWord (seqStateText s.seqState), vId .l r.list, vStep r.step, vNum r.pass, r.vResume, r.vDue, r.vTrigger] s)

end Sys2Proof.Machine
end

