-- ==== Sys2Proof/Machine/TriggerLines.lean ====
section
/-! DEFINITION. The commands of chapter 8: TRIN, TROUT, PACE, SNAP and their queries. -/

namespace Sys2Proof.Machine

/-! ### TRIN (R158) -/

/-- Set the filtered level to the raw level, with no qualification and no edge (R158, R178). -/
def TrigIn.relevel (x : TrigIn) : TrigIn := ⟨x.raw, x.raw, none⟩

/-- Store an input's setting and take its raw level. -/
def State.setInput (s : State) (i : Fin 4) (c : InSetting) : State :=
  { s with
    settings := { s.settings with inputs := s.settings.inputs.set i c }
    timers := { s.timers with ins := s.timers.ins.set i s.timers.ins[i].relevel } }

def edgeOf : Kw → Option Bool
  | .rise => some true
  | .fall => some false
  | _ => none

def cmdTrin (args : List Arg) (s : State) : Answer :=
  match args with
  | [ia, ea, fa] =>
    match asId .ti ia, asWord ea, asWord fa with
    | some i, some w, some f =>
      match fin4 i, edgeOf w, filterOf f with
      | some i, some rise, some f => if !s.seqIdle then nak .seqActive s else okay (s.setInput i ⟨rise, f⟩)
      | _, _, _ => nak .range s
    | _, _, _ => nak .badForm s
  | _ => nak .badForm s

def filterText : Filter → String
  | .off => "OFF" | .narrow => "NARROW" | .wide => "WIDE"

def cmdTrinQuery (args : List Arg) (s : State) : Answer :=
  match args with
  | [a] =>
    match asId .ti a with
    | some i =>
      match fin4 i with
      | some i =>
        okWith [vWord (if s.settings.inputs[i].rise then "RISE" else "FALL"), vWord (filterText s.settings.inputs[i].filter),
          vWord (highLow s.timers.ins[i].level)] s
      | none => nak .range s
    | none => nak .badForm s
  | _ => nak .badForm s

/-! ### TROUT (R163) -/

def cmdTrout (args : List Arg) (s : State) : Answer :=
  match args with
  | [oa, wa] =>
    match asId .to oa, asNum wa with
    | some o, some w =>
      match fin4 o with
      | some o =>
        let v := storedTime 0 655350 w
        okWith [vNum v] { s with settings := { s.settings with widths := s.settings.widths.set o v } }
      | none => nak .range s
    | _, _ => nak .badForm s
  | _ => nak .badForm s

/-- A drive as TROUT? writes it. -/
def State.vDrive (s : State) : OutDrive → Val
  | .off => vWord "NONE"
  | .level _ => vWord "LEVEL"
  | .pulse t => vJoin ':' [vWord "PULSE", vNum (roundUp10 (t - s.now))]
  | .frozen r => vJoin ':' [vWord "PULSE", vNum r]

def cmdTroutQuery (args : List Arg) (s : State) : Answer :=
  match args with
  | [a] =>
    match asId .to a with
    | some o =>
      match fin4 o with
      | some o =>
        okWith [vNum s.settings.widths[o], vWord (highLow s.timers.outs[o].high), s.vDrive s.timers.outs[o]] s
      | none => nak .range s
    | none => nak .badForm s
  | _ => nak .badForm s

/-! ### PACE (R169, R170) -/

/-- The gate argument: absent, or an input number. -/
def parseGate : List Arg → Option (Option Nat)
  | [] => some none
  | [a] => (asId .ti a).map some
  | _ => none

/-- The arguments of PACE by their forms; GATED and RETRIG need a gate. -/
def parsePace : List Arg → Option (Option PaceMode × Nat × Option Nat)
  | ma :: ca :: rest =>
    match asWord ma, asNum ca, parseGate rest with
    | some w, some c, some g =>
      match paceModeOf w, g with
      | some .gated, none => none
      | some .retrig, none => none
      | m, g => some (m, c, g)
    | _, _, _ => none
  | _ => none

/-- The setting when conditions 2 to 4 of R169 do not hold. -/
def paceInRange (m : Option PaceMode) (c : Nat) (g : Option Nat) : Option PaceSetting :=
  match m with
  | none => none
  | some .rate => if g = none ∧ c ≤ 16777215 ∧ c ≠ 1 then some ⟨.rate, c, none⟩ else none
  | some .gated =>
    match g.bind fin4 with
    | some i => if c ≤ 16777215 ∧ c ≠ 1 then some ⟨.gated, c, some i⟩ else none
    | none => none
  | some .retrig =>
    match g.bind fin4 with
    | some i => if c ≤ 16777215 then some ⟨.retrig, c, some i⟩ else none
    | none => none

/-- Store a pace setting: a running timer restarts on a change of mode or gate, and otherwise marks the count for its next
reload (R170). -/
def State.setPace (s : State) (p : PaceSetting) : State :=
  let old := s.settings.pace
  let s1 := { s with settings := { s.settings with pace := p } }
  if s.seqIdle then s1
  else if old.mode = p.mode ∧ old.gate = p.gate then
    { s1 with timers := { s1.timers with pace := { s1.timers.pace with pend := true } } }
  else s1.startPace

def cmdPace (args : List Arg) (s : State) : Answer :=
  match parsePace args with
  | none => nak .badForm s
  | some (m, c, g) =>
    match paceInRange m c g with
    | some p => okay (s.setPace p)
    | none => nak .range s

def paceModeText : PaceMode → String
  | .rate => "RATE" | .gated => "GATED" | .retrig => "RETRIG"

def pacePhaseText : PacePhase → String
  | .stopped => "STOPPED" | .counting _ => "COUNTING" | .held _ => "HELD" | .ready => "READY"

def cmdPaceQuery (args : List Arg) (s : State) : Answer :=
  noArgs args s
    (okWith [vWord (paceModeText s.settings.pace.mode), vNum s.settings.pace.count,
      vOpt (fun i => vId .ti i.val) s.settings.pace.gate, vWord (pacePhaseText s.timers.pace.phase), vNum s.timers.pace.loaded,
      vNum s.paceRemaining, vFlag "PEND" s.timers.pace.pend] s)

/-! ### SNAP (R174, R175) -/

/-- The live SEQ values (R173). -/
def State.liveSeq (s : State) : SeqSnap := ⟨s.seqState, s.seq.map (·.step), s.seq.map (·.pass)⟩

/-- The live PACE values. -/
def State.livePace (s : State) : Bool × Nat := (s.timers.pace.pend, s.paceRemaining)

/-- Fill one empty latch. -/
def fillLatch (s : State) (l : Latches) : Kw → Latches
  | .seq => { l with seq := l.seq.or (some s.liveSeq) }
  | .pace => { l with pace := l.pace.or (some s.livePace) }
  | .wind => { l with wind := l.wind.or (some s.windowElapsed) }
  | .dwell => { l with dwell := l.dwell.or (some s.dwellRemaining) }
  | _ => l

/-- A target of SNAP. -/
def isTarget (w : Kw) : Bool := w = .seq ∨ w = .pace ∨ w = .wind ∨ w = .dwell

def cmdSnap (args : List Arg) (s : State) : Answer :=
  match asAll asWord args with
  | none => nak .badForm s
  | some [] => nak .badForm s
  | some ws =>
    if ws.all isTarget then
      okay { s with timers := { s.timers with latch := ws.foldl (fillLatch s) s.timers.latch } }
    else nak .range s

/-- The latched targets joined by plus signs in the fixed order. -/
def Latches.vTargets (l : Latches) : Val :=
  vJoin '+' ((if l.seq.isSome then [vWord "SEQ"] else []) ++ (if l.pace.isSome then [vWord "PACE"] else []) ++
    (if l.wind.isSome then [vWord "WIND"] else []) ++ (if l.dwell.isSome then [vWord "DWELL"] else []))

/-- SNAP? reads latched values where there are any and live ones elsewhere, and empties every latch (R175). -/
def cmdSnapQuery (args : List Arg) (s : State) : Answer :=
  let l := s.timers.latch
  let q := l.seq.getD s.liveSeq
  let p := l.pace.getD s.livePace
  noArgs args s
    (okWith [l.vTargets, vWord (seqStateText q.st), vOpt vStep q.step, vFlag "PEND" p.1, vOpt vNum q.pass, vNum p.2,
      vNum (l.wind.getD s.windowElapsed), vNum (l.dwell.getD s.dwellRemaining)]
      { s with timers := { s.timers with latch := .empty } })

end Sys2Proof.Machine
end

