-- ==== Sys2Proof/Machine/Interpret.lean ====
section
/-! DEFINITION. The interpreter: the Inbound Queue, taking a record, and the Reply Queue (R183 to R186). -/

namespace Sys2Proof.Machine

/-- What each command answers, and the state it leaves. A row that stands for no record is never in the Inbound Queue; it is
answered like a bad record. -/
def answerOf : Instr → State → Answer
  | .node a => cmdNode a
  | .nodeQuery a => cmdNodeQuery a
  | .elem a => cmdElem a
  | .elemQuery a => cmdElemQuery a
  | .posn a => cmdPosn a
  | .path a => cmdPath a
  | .pathQuery a => cmdPathQuery a
  | .pdel a => cmdPdel a
  | .link a => cmdLink a
  | .unlink a => cmdUnlink a
  | .unlinkAll => cmdUnlinkAll
  | .heldQuery a => cmdHeldQuery a
  | .safe _ => cmdSafe
  | .pulse a => cmdPulse a
  | .pulseQuery a => cmdPulseQuery a
  | .setl a => cmdSetl a
  | .setlQuery a => cmdSetlQuery a
  | .bank a => cmdBank a
  | .bankQuery a => cmdBankQuery a
  | .planQuery k a => cmdPlanQuery k a
  | .guard a => cmdGuard a
  | .rfth a => cmdRfth a
  | .mute a => cmdMute a
  | .muteQuery a => cmdMuteQuery a
  | .senseQuery a => cmdSenseQuery a
  | .supplyQuery a => cmdSupplyQuery a
  | .wearLim a => cmdWearLim a
  | .wearClr a => cmdWearClr a
  | .wearQuery a => cmdWearQuery a
  | .freq a => cmdFreq a
  | .freqQuery a => cmdFreqQuery a
  | .lossE a => cmdLossE a
  | .lossN a => cmdLossN a
  | .lossQuery k a => cmdLossQuery k a
  | .step a => cmdStep a
  | .stepQuery a => cmdStepQuery a
  | .sdel a => cmdSdel a
  | .list a => cmdList a
  | .listQuery a => cmdListQuery a
  | .ldel a => cmdLdel a
  | .arm a => cmdArm a
  | .go _ => cmdGo
  | .halt v a => cmdHalt v a
  | .resume a => cmdResume a
  | .abort a => cmdAbort a
  | .seqQuery a => cmdSeqQuery a
  | .trin a => cmdTrin a
  | .trinQuery a => cmdTrinQuery a
  | .trout a => cmdTrout a
  | .troutQuery a => cmdTroutQuery a
  | .pace a => cmdPace a
  | .paceQuery a => cmdPaceQuery a
  | .snap a => cmdSnap a
  | .snapQuery a => cmdSnapQuery a
  | .noteQuery a => cmdNoteQuery a
  | .attn a => cmdAttn a
  | .statQuery a => cmdStatQuery a
  | .identQuery a => cmdIdentQuery a
  | .save a => cmdSave a
  | .load a => cmdLoad a
  | .storeQuery a => cmdStoreQuery a
  | .reset _ => cmdReset
  | _ => nak .badForm

/-- The interpreter can take a record (R185, R189): no stop is present, and an addressed record has room for its reply. -/
def State.ready (s : State) (v : Via) : Bool :=
  s.link.stop.isNone && (v = .broadcast || s.link.replies.length < 8)

/-- Place a reply at the tail of the Reply Queue; a broadcast draws none (R182, R185). -/
def State.reply (s : State) (v : Via) (r : Reply) : State :=
  match v with
  | .addressed => { s with link := { s.link with replies := s.link.replies ++ [r] } }
  | .broadcast => s

/-- Take one record whole: the command acts, its reply is placed, and what follows at the same moment runs (R185). -/
def State.take (s : State) (v : Via) (cmd : State → Answer) : State :=
  let a := cmd s
  (a.2.reply v a.1).settled

/-- A record joins the Inbound Queue, or is an overrun (R184). -/
def State.join (s : State) (c : Instr) : State :=
  if s.link.inbound.length < 8 then { s with link := { s.link with inbound := s.link.inbound ++ [c] } }
  else
    let n := min 65535 (s.link.overruns + 1)
    { s with link := { s.link with overrun := true, overruns := n } }.notify .overrun [] (vNum n)

/-- Take records from the head while they can be answered (R185). The first argument bounds how many. -/
def State.drain : Nat → State → State
  | 0, s => s
  | n + 1, s =>
    match s.link.inbound with
    | [] => s
    | c :: t =>
      if s.ready c.via then
        State.drain n (({ s with link := { s.link with inbound := t } }).take c.via (answerOf c))
      else s

/-- A record arrives at a station: it joins the queue, and whatever can be taken is taken. -/
def State.arrive (s : State) (c : Instr) : State := (s.join c).drain 9

/-- The station can hear a record of this kind: it runs, and at address 0 it accepts broadcasts only (R179, R181). -/
def State.hears (s : State) (v : Via) : Bool := s.life = .running && (v = .broadcast || s.straps.addr.val ≠ 0)

/-- The record of a command reaches the station (log entry 3): with nothing queued and room to answer it is taken at once;
otherwise it joins the queue. -/
def State.receive (s : State) (c : Instr) (cmd : State → Answer) : State :=
  if s.hears c.via then
    if s.link.inbound = [] ∧ s.ready c.via = true then s.take c.via cmd else s.arrive c
  else s

end Sys2Proof.Machine
end

