-- ==== Sys2Proof/Machine/CommandRows.lean ====
section
/-! DEFINITION. The meaning of each command row: its record reaches the station and, when it can be taken, the command of its
chapter acts and answers (R185). -/

namespace Sys2Proof.Machine

/-- What every meaning answers. -/
abbrev Result := Host.Outcome State Fault Refusal

/-- NODE (R2, R3). -/
def execNode (args : List Arg) (s : State) : Result := .next (s.receive (.node args) (cmdNode args))

/-- NODE? (R4). -/
def execNodeQuery (args : List Arg) (s : State) : Result := .next (s.receive (.nodeQuery args) (cmdNodeQuery args))

/-- ELEM (R11, R12). -/
def execElem (args : List Arg) (s : State) : Result := .next (s.receive (.elem args) (cmdElem args))

/-- ELEM? (R13). -/
def execElemQuery (args : List Arg) (s : State) : Result := .next (s.receive (.elemQuery args) (cmdElemQuery args))

/-- POSN (R22, R23). -/
def execPosn (args : List Arg) (s : State) : Result := .next (s.receive (.posn args) (cmdPosn args))

/-- PATH (R29, R30). -/
def execPath (args : List Arg) (s : State) : Result := .next (s.receive (.path args) (cmdPath args))

/-- PATH? (R31). -/
def execPathQuery (args : List Arg) (s : State) : Result := .next (s.receive (.pathQuery args) (cmdPathQuery args))

/-- PDEL (R32). -/
def execPdel (args : List Arg) (s : State) : Result := .next (s.receive (.pdel args) (cmdPdel args))

/-- LINK (R39 to R41). -/
def execLink (args : List Arg) (s : State) : Result := .next (s.receive (.link args) (cmdLink args))

/-- UNLINK of one route (R42). -/
def execUnlink (args : List Arg) (s : State) : Result := .next (s.receive (.unlink args) (cmdUnlink args))

/-- HELD? (R47). -/
def execHeldQuery (args : List Arg) (s : State) : Result := .next (s.receive (.heldQuery args) (cmdHeldQuery args))

/-- PULSE (R70). -/
def execPulse (args : List Arg) (s : State) : Result := .next (s.receive (.pulse args) (cmdPulse args))

/-- PULSE? (R70). -/
def execPulseQuery (args : List Arg) (s : State) : Result := .next (s.receive (.pulseQuery args) (cmdPulseQuery args))

/-- SETL (R71). -/
def execSetl (args : List Arg) (s : State) : Result := .next (s.receive (.setl args) (cmdSetl args))

/-- SETL? (R71). -/
def execSetlQuery (args : List Arg) (s : State) : Result := .next (s.receive (.setlQuery args) (cmdSetlQuery args))

/-- BANK (R72). -/
def execBank (args : List Arg) (s : State) : Result := .next (s.receive (.bank args) (cmdBank args))

/-- BANK? (R72). -/
def execBankQuery (args : List Arg) (s : State) : Result := .next (s.receive (.bankQuery args) (cmdBankQuery args))

/-- GUARD (R83). -/
def execGuard (args : List Arg) (s : State) : Result := .next (s.receive (.guard args) (cmdGuard args))

/-- RFTH (R85). -/
def execRfth (args : List Arg) (s : State) : Result := .next (s.receive (.rfth args) (cmdRfth args))

/-- MUTE (R90). -/
def execMute (args : List Arg) (s : State) : Result := .next (s.receive (.mute args) (cmdMute args))

/-- MUTE? (R90). -/
def execMuteQuery (args : List Arg) (s : State) : Result := .next (s.receive (.muteQuery args) (cmdMuteQuery args))

/-- SENSE? (R86). -/
def execSenseQuery (args : List Arg) (s : State) : Result := .next (s.receive (.senseQuery args) (cmdSenseQuery args))

/-- SUPPLY? (R104). -/
def execSupplyQuery (args : List Arg) (s : State) : Result := .next (s.receive (.supplyQuery args) (cmdSupplyQuery args))

/-- WEAR LIM (R108). -/
def execWearLim (args : List Arg) (s : State) : Result := .next (s.receive (.wearLim args) (cmdWearLim args))

/-- WEAR CLR (R109). -/
def execWearClr (args : List Arg) (s : State) : Result := .next (s.receive (.wearClr args) (cmdWearClr args))

/-- WEAR? (R110). -/
def execWearQuery (args : List Arg) (s : State) : Result := .next (s.receive (.wearQuery args) (cmdWearQuery args))

/-- FREQ (R114). -/
def execFreq (args : List Arg) (s : State) : Result := .next (s.receive (.freq args) (cmdFreq args))

/-- FREQ? (R115). -/
def execFreqQuery (args : List Arg) (s : State) : Result := .next (s.receive (.freqQuery args) (cmdFreqQuery args))

/-- LOSS E (R116, R117). -/
def execLossE (args : List Arg) (s : State) : Result := .next (s.receive (.lossE args) (cmdLossE args))

/-- LOSS N (R116, R117). -/
def execLossN (args : List Arg) (s : State) : Result := .next (s.receive (.lossN args) (cmdLossN args))

/-- STEP (R125, R126). -/
def execStep (args : List Arg) (s : State) : Result := .next (s.receive (.step args) (cmdStep args))

/-- STEP? (R127). -/
def execStepQuery (args : List Arg) (s : State) : Result := .next (s.receive (.stepQuery args) (cmdStepQuery args))

/-- SDEL (R128). -/
def execSdel (args : List Arg) (s : State) : Result := .next (s.receive (.sdel args) (cmdSdel args))

/-- LIST (R130). -/
def execList (args : List Arg) (s : State) : Result := .next (s.receive (.list args) (cmdList args))

/-- LIST? (R131). -/
def execListQuery (args : List Arg) (s : State) : Result := .next (s.receive (.listQuery args) (cmdListQuery args))

/-- LDEL (R132). -/
def execLdel (args : List Arg) (s : State) : Result := .next (s.receive (.ldel args) (cmdLdel args))

/-- ARM (R135). -/
def execArm (args : List Arg) (s : State) : Result := .next (s.receive (.arm args) (cmdArm args))

/-- RESUME (R150). -/
def execResume (args : List Arg) (s : State) : Result := .next (s.receive (.resume args) (cmdResume args))

/-- ABORT (R151). -/
def execAbort (args : List Arg) (s : State) : Result := .next (s.receive (.abort args) (cmdAbort args))

/-- SEQ? (R153). -/
def execSeqQuery (args : List Arg) (s : State) : Result := .next (s.receive (.seqQuery args) (cmdSeqQuery args))

/-- TRIN (R158). -/
def execTrin (args : List Arg) (s : State) : Result := .next (s.receive (.trin args) (cmdTrin args))

/-- TRIN? (R158). -/
def execTrinQuery (args : List Arg) (s : State) : Result := .next (s.receive (.trinQuery args) (cmdTrinQuery args))

/-- TROUT (R163). -/
def execTrout (args : List Arg) (s : State) : Result := .next (s.receive (.trout args) (cmdTrout args))

/-- TROUT? (R163). -/
def execTroutQuery (args : List Arg) (s : State) : Result := .next (s.receive (.troutQuery args) (cmdTroutQuery args))

/-- PACE (R169, R170). -/
def execPace (args : List Arg) (s : State) : Result := .next (s.receive (.pace args) (cmdPace args))

/-- PACE? (R170). -/
def execPaceQuery (args : List Arg) (s : State) : Result := .next (s.receive (.paceQuery args) (cmdPaceQuery args))

/-- SNAP (R174). -/
def execSnap (args : List Arg) (s : State) : Result := .next (s.receive (.snap args) (cmdSnap args))

/-- SNAP? (R175). -/
def execSnapQuery (args : List Arg) (s : State) : Result := .next (s.receive (.snapQuery args) (cmdSnapQuery args))

/-- NOTE? (R195). -/
def execNoteQuery (args : List Arg) (s : State) : Result := .next (s.receive (.noteQuery args) (cmdNoteQuery args))

/-- ATTN (R197). -/
def execAttn (args : List Arg) (s : State) : Result := .next (s.receive (.attn args) (cmdAttn args))

/-- STAT? (R198). -/
def execStatQuery (args : List Arg) (s : State) : Result := .next (s.receive (.statQuery args) (cmdStatQuery args))

/-- IDENT? (R199). -/
def execIdentQuery (args : List Arg) (s : State) : Result := .next (s.receive (.identQuery args) (cmdIdentQuery args))

/-- SAVE (R203). -/
def execSave (args : List Arg) (s : State) : Result := .next (s.receive (.save args) (cmdSave args))

/-- LOAD (R208). -/
def execLoad (args : List Arg) (s : State) : Result := .next (s.receive (.load args) (cmdLoad args))

/-- STORE? (R207). -/
def execStoreQuery (args : List Arg) (s : State) : Result := .next (s.receive (.storeQuery args) (cmdStoreQuery args))

/-- UNLINK ALL (R43). -/
def execUnlinkAll (s : State) : Result := .next (s.receive .unlinkAll cmdUnlinkAll)

/-- SAFE, addressed or broadcast (R78). -/
def execSafe (via : Via) (s : State) : Result := .next (s.receive (.safe via) cmdSafe)

/-- PLAN? LINK and PLAN? STEP (R75). -/
def execPlanQuery (kw : Kw) (args : List Arg) (s : State) : Result :=
  .next (s.receive (.planQuery kw args) (cmdPlanQuery kw args))

/-- LOSS?, LOSS? E and LOSS? N (R120). -/
def execLossQuery (kw : Option Kw) (args : List Arg) (s : State) : Result :=
  .next (s.receive (.lossQuery kw args) (cmdLossQuery kw args))

/-- GO, addressed or broadcast (R141). -/
def execGo (via : Via) (s : State) : Result := .next (s.receive (.go via) cmdGo)

/-- HALT, addressed or broadcast (R148). -/
def execHalt (via : Via) (args : List Arg) (s : State) : Result := .next (s.receive (.halt via args) (cmdHalt via args))

/-- RESET, addressed or broadcast (R209). -/
def execReset (via : Via) (s : State) : Result := .next (s.receive (.reset via) cmdReset)

/-- BAD_RECORD: a bad record, or one that fails in form (R183, R185). -/
def execBadRecord (s : State) : Result := .next (s.receive .badRecord (nak .badForm))

end Sys2Proof.Machine
end

