-- ==== Sys2Proof/Machine/StartEvents.lean ====
section
/-! DEFINITION. The starts: RESET taking effect, the RESET input, the supply to the controller, and the end of start-up (R209 to
R211). -/

namespace Sys2Proof.Machine

/-- A start of a kind begins: held while the RESET input is asserted, else start-up runs its 200 ms (R209, R210). -/
def State.startAs (s : State) (k : StartKind) : State :=
  s.beginStart (if s.resetLine then .held k else .starting k (s.now + Config.startUpTime))

/-- The RESET command's start can take effect: the final flush has ended and the Reply Queue is empty (R209). DESIGN CHOICE (log
entry 43): a flush that the flush clock began after the final flush had ended does not delay the start, and is cut by it. -/
def State.commandStartDue (s : State) : Bool :=
  s.life = .running && s.link.stop = some .ended && s.link.replies.isEmpty

/-- COMMAND_START (R209). -/
def execCommandStart (s : State) : Result := .next (if s.commandStartDue then s.startAs .command else s)

/-- POWER_LOSS: the supply to the controller goes; drive is removed and all work is lost (R209). -/
def execPowerLoss (s : State) : Result := .next (if s.life = .unpowered then s else s.beginStart .unpowered)

/-- POWER_START: the supply returns (R209). -/
def execPowerStart (s : State) : Result := .next (if s.life = .unpowered then s.startAs .power else s)

/-- LINE_START: the RESET input is asserted (R209). Without supply only its level changes (log entry 31). -/
def execLineStart (s : State) : Result :=
  .next (if s.resetLine then s
    else if s.life = .unpowered then { s with resetLine := true }
    else { s with resetLine := true }.startAs .line)

/-- RESET_RELEASE: the RESET input is released, and the steps of start-up proceed from this moment (R209, R210). -/
def execResetRelease (s : State) : Result :=
  .next (if s.resetLine then
    match s.life with
    | .held k => { s with resetLine := false, life := .starting k (s.now + Config.startUpTime) }
    | _ => { s with resetLine := false }
  else s)

/-- START_UP_COMPLETE, with the straps found (R210, R211; log entry 24). -/
def execStartUpComplete (straps : Straps) (s : State) : Result :=
  .next (match s.life with
    | .starting k _ => s.completeStart k straps
    | _ => s)

end Sys2Proof.Machine
end

