-- ==== Sys2Proof/Machine/LinkEvents.lean ====
section
/-! DEFINITION. The events of the command link: characters and records arriving, the link break, replies being sent (R180 to
R182, R186, R188). -/

namespace Sys2Proof.Machine

/-! ### Character times (R179) -/

/-- The time of n characters at a speed, rounded up to a whole µs: ten bit times each. -/
def charsTime (b : Baud) (n : Nat) : Micros := (n * 10000000 + (baudRate b - 1)) / baudRate b

/-- The number of characters of a reply record. -/
def State.replyLength (s : State) (r : Reply) : Nat := (r.record s.straps.addr.val).length

/-! ### Receiving (R180 to R182) -/

/-- A digit's value when the character is a decimal digit without a framing error. -/
def digitOf (c : Char × Bool) : Option Nat := if isDigit c.1 && !c.2 then some (c.1.toNat - 48) else none

/-- The address of a record kept, when readable, and the characters after it (R181). -/
def recordAddress : List (Char × Bool) → Option (Nat × List Char)
  | _ :: a :: b :: rest =>
    match digitOf a, digitOf b with
    | some x, some y => some (10 * x + y, rest.map (·.1))
    | _, _ => none
  | _ => none

/-- What a record that has ended becomes: nothing, or a command that joins the Inbound Queue (R181, R182). -/
def State.routeRecord (s : State) (kept : List (Char × Bool)) (bad : Bool) : Option Instr :=
  match recordAddress kept with
  | none => none
  | some (a, body) =>
    if a = 0 then (if bad then none else parseBroadcast body)
    else if a = s.straps.addr.val then some (if bad then .badRecord else parseAddressed body)
    else none

/-- A CR ends the record being assembled; outside a record it is disregarded. -/
def State.endRecord (s : State) : State :=
  match s.link.receive with
  | .outside => s
  | .inside kept _ bad =>
    let s1 := { s with link := { s.link with receive := .outside } }
    match s.routeRecord kept bad with
    | some c => s1.arrive c
    | none => s1

/-- A character other than CR in a receive state (R180). A character with a framing error is never read as `@` or line feed
(log entry 17). -/
def receiveChar (code : Nat) (framing : Bool) (r : Receive) : Receive :=
  if code = 64 ∧ framing = false then .inside [('@', false)] 1 false
  else
    match r with
    | .outside => .outside
    | .inside kept count bad =>
      if code = 10 ∧ framing = false then .inside kept count bad
      else
        .inside (if kept.length < 95 then kept ++ [(Char.ofNat code, framing)] else kept) (count + 1)
          (bad || framing || code < 32 || 126 < code || 95 < count + 1)

/-- A character on the command pair (R180). -/
def State.character (s : State) (code : Nat) (framing : Bool) : State :=
  if code = 13 ∧ framing = false then s.endRecord
  else { s with link := { s.link with receive := receiveChar code framing s.link.receive } }

/-- An event acts only on a controller that runs; what follows at the same moment runs too. -/
def State.during (s : State) (go : State → State) : State := if s.life = .running then (go s).settled else s

/-- RECORD_RECEIVED: the CR of a record (R180, R181). -/
def execRecordReceived (s : State) : Result := .next (if s.life = .running then s.endRecord else s)

/-- COMMAND_PAIR_CHARACTER (R180). -/
def execCommandPairCharacter (code : BitVec 8) (framing : Bool) (s : State) : Result :=
  .next (if s.life = .running then s.character code.toNat framing else s)

/-! ### Link break (R188) -/

/-- The end of the character being sent at this moment, for a reply whose transmission began at t (log entry 18).
DESIGN CHOICE (log entry 46): at the boundary of two characters it is the next one, even one past the CR. -/
def charEnd (b : Baud) (t now : Micros) : Micros := t + charsTime b ((now - t) * baudRate b / 10000000 + 1)

/-- The Command Link at a link break: what is being assembled, queued or answered is dropped; the overrun record stands. -/
def Link.broken (l : Link) (b : Baud) (now : Micros) : Link :=
  { l with
    receive := .outside
    inbound := []
    replies := []
    sending := none
    lastChar := match l.sending with
      | some t => max l.lastChar (charEnd b t now)
      | none => l.lastChar }

/-- LINK_BREAK (R188). -/
def execLinkBreak (s : State) : Result :=
  .next (if s.life = .running then { s with link := s.link.broken s.straps.baud s.now } else s)

/-! ### Replies (R186) -/

/-- When the oldest reply may begin: one character time after the end of the last character on the pair, one that has begun
included, so that none is on the pair or begins in that time (R186). -/
def State.sendDue (s : State) : Option Micros :=
  match s.link.replies, s.link.sending with
  | _ :: _, none => some (s.link.lastChar + charsTime s.straps.baud 1)
  | _, _ => none

/-- When the reply being sent ends. -/
def State.sentDue (s : State) : Option Micros :=
  match s.link.replies, s.link.sending with
  | r :: _, some t => some (t + charsTime s.straps.baud (s.replyLength r))
  | _, _ => none

/-- REPLY_TRANSMIT_START (R186). -/
def execReplyTransmitStart (s : State) : Result :=
  .next (if s.life = .running then
    match s.sendDue with
    | some t => let s1 := s.at t; { s1 with link := { s1.link with sending := some s1.now } }
    | none => s
  else s)

/-- The reply being sent has ended: it leaves the queue, and the interpreter may take waiting records. -/
def State.replyEnds (s : State) (t : Micros) : State :=
  let s1 := s.at t
  ({ s1 with link := { s1.link with
      replies := s1.link.replies.drop 1, sending := none, lastChar := max s1.link.lastChar s1.now } }).drain 9

/-- REPLY_SENT (R186). -/
def execReplySent (s : State) : Result :=
  .next (if s.life = .running then
    match s.sentDue with
    | some t => s.replyEnds t
    | none => s
  else s)

/-- REPLY_PAIR_CHARACTER: a character of another station begins on the reply pair, and ends one character time later (R186;
log entry 22). -/
def execReplyPairCharacter (s : State) : Result :=
  .next (if s.life = .running then
    { s with link := { s.link with lastChar := max s.link.lastChar (s.now + charsTime s.straps.baud 1) } }
  else s)

end Sys2Proof.Machine
end

