-- ==== Sys2Proof/Machine/InputEvents.lean ====
section
/-! DEFINITION. The events of the inputs: QUIET, detectors, the drive supply, sense lines, trigger inputs (R19, R84, R88, R98,
R156). While the controller does not run, an input only changes its level (R210). -/

namespace Sys2Proof.Machine

/-! ### QUIET and the detectors -/

/-- QUIET_CHANGE (R88, R93). -/
def execQuietChange (high : Bool) (s : State) : Result :=
  let s1 := { s with guard := { s.guard with quiet := high } }
  .next (s1.during (fun t => if s.guard.quiet && !high then t.quietFell else t))

/-- DETECTOR_READING (R84, R88, R93). -/
def execDetectorReading (d : Fin 8) (centiDbm : Int) (s : State) : Result :=
  let x := s.guard.dets[d]
  let s1 := { s with guard := { s.guard with dets := s.guard.dets.set d { x with reading := readPower centiDbm } } }
  .next (s1.during (fun t => t.judgeDetector d))

/-! ### The drive supply (R98, R99, R102, R103) -/

/-- The hold clock when the supply state changes: set on entry to CUT in MOVE, cleared when CUT ends (R103). -/
def holdClock (now : Micros) (st : SupplyState) (f : Flight) : Flight :=
  if st = .cut then (if f.phase = .move then { f with holdLimit := some (now + Config.holdLimit) } else f)
  else { f with holdLimit := none }

/-- A change of supply state: its notice, the hold clock, and the waves that CUT held (R99, R102, R103). -/
def State.supplyChanged (s : State) (was st : SupplyState) : State :=
  let s1 := ({ s with supply := { s.supply with st := st } }.notify .supply (vWord (supplyText st))
    (vNum s.supply.reading)).modFlight (holdClock s.now st)
  if was = .cut then s1.startBanks else s1

/-- SUPPLY_CHANGE (R98). -/
def execSupplyChange (centivolts : Int) (s : State) : Result :=
  let s1 := { s with supply := { s.supply with reading := readVoltage centivolts } }
  .next (s1.during (fun t =>
    let st := nextSupply t.supply.st t.supply.reading
    if st = t.supply.st then t else t.supplyChanged t.supply.st st))

/-! ### Sense lines (R19) -/

/-- The count of a report for one element: it runs while the element is sensed and not MOVING, from the newest report. DESIGN
CHOICE (log entry 34): a change of contacts that leaves the reading the same is a newer report too, and restarts the count. -/
def countReport (now : Micros) (report : Reading) (x : Element) : Element :=
  match x.st, x.sense with
  | .moving _ _, _ => x
  | _, some r => { x with counting := countFrom now r report }
  | _, none => x

/-- The element in a slot. -/
def State.elemAt (s : State) (b slot : Fin 8) : Option Nat := tfind s.elems (fun _ x => x.d.bank = b && x.d.slot = slot)

/-- A new report on the lines of a slot. -/
def State.newReport (s : State) (b slot : Fin 8) : State :=
  match s.elemAt b slot with
  | some e =>
    match tget s.elems e with
    | some x => s.modElem e (countReport s.now (s.reading x.d))
    | none => s
  | none => s

/-- SENSE_REPORT_CHANGE: the contacts now closed in a slot (R19). -/
def execSenseReportChange (b slot : Fin 8) (closed : BitVec 8) (s : State) : Result :=
  let s1 := { s with senseLines := s.senseLines.set (slotIndex b slot) closed }
  .next (if s.senseLines[slotIndex b slot] = closed then s else s1.during (fun t => t.newReport b slot))

/-! ### Trigger inputs (R156, R157) -/

/-- Write one trigger input. -/
def State.setIn (s : State) (i : Fin 4) (x : TrigIn) : State :=
  { s with timers := { s.timers with ins := s.timers.ins.set i x } }

/-- A change of an input's filtered level: an advance event on the selected edge, then a gate change (R157). -/
def State.filteredChange (s : State) (i : Fin 4) (high : Bool) : State :=
  let x := s.timers.ins[i]
  let s1 := s.setIn i { x with level := high, qual := none }
  let s2 := if s.settings.inputs[i].rise = high then s1.advanceEvent (.ti i) else s1
  if s.settings.pace.gate = some i then
    { s2 with timers := { s2.timers with pace := gateChange s2.now s2.settings.pace high s2.timers.pace } }
  else s2

/-- A raw change: filtered at once without a filter, else a qualification begins or is dropped (R156). -/
def State.rawChange (s : State) (i : Fin 4) (high : Bool) : State :=
  let x := s.timers.ins[i]
  if x.level = high then
    s.setIn i { x with qual := none }
  else if s.settings.inputs[i].filter = .off then s.filteredChange i high
  else s.setIn i { x with qual := some (s.now + qualTime s.settings.inputs[i].filter) }

/-- TRIGGER_INPUT_CHANGE (R156). -/
def execTriggerInputChange (i : Fin 4) (high : Bool) (s : State) : Result :=
  let x := s.timers.ins[i]
  let s1 := s.setIn i { x with raw := high }
  .next (if x.raw = high then s else s1.during (fun t => t.rawChange i high))

end Sys2Proof.Machine
end

