-- ==== Sys2Proof/Machine/TimedEvents.lean ====
section
/-! DEFINITION. The timed events of the guard, the engine, the timers and the store. Each acts when its cause stands, at its due
moment or later (log entry 2); otherwise it changes nothing. -/

namespace Sys2Proof.Machine

/-- Act at the due moment of an event, when it has one. -/
def State.whenDue (s : State) (due : Option Micros) (go : State → State) : State :=
  match due with
  | some t => s.during (fun u => go (u.at t))
  | none => s

/-! ### Guard Unit (R88, R89) -/

/-- When the mute timeout of a plan in GUARD expires. -/
def State.muteDue (s : State) : Option Micros :=
  match s.engine.flight with
  | some f => if f.phase = .guard then some f.guard.expiry else none
  | none => none

/-- The mute timeout expires: the plan fails, its hold ends, and a release interval opens. -/
def State.muteExpires (s : State) : State :=
  match s.engine.flight with
  | some f =>
    let f1 := { f with guardFailed := true }
    ({ s.setFlight f1 with
        guard := { s.guard with planHold := false, releaseEnd := some (s.now + Config.releaseInterval) } }).planReady f1
  | none => s

/-- MUTE_TIMEOUT (R89). -/
def execMuteTimeout (s : State) : Result := .next (s.whenDue s.muteDue State.muteExpires)

/-- The release interval ends: a plan waiting in GUARD for the handshake asserts INHIBIT (R88, R89). -/
def State.releaseEnds (s : State) : State :=
  let hold := match s.engine.flight with
    | some f => f.phase = .guard && f.guard.handshake
    | none => false
  { s with guard := { s.guard with releaseEnd := none, planHold := s.guard.planHold || hold } }

/-- RELEASE_INTERVAL_END (R89). -/
def execReleaseIntervalEnd (s : State) : Result := .next (s.whenDue s.guard.releaseEnd State.releaseEnds)

/-! ### Waves (R59 to R65) -/

/-- WAVE_START: a bank's next ordinary wave (R59). -/
def execWaveStart (b : Fin 8) (s : State) : Result := .next (s.whenDue (s.waveDue b) (fun t => t.startWave b))

/-- WAVE_END: the wave or retry running in a bank (R60, R61). -/
def execWaveEnd (b : Fin 8) (s : State) : Result := .next (s.whenDue (s.waveEndsAt b) (fun t => t.endWave b))

/-- RETRY_START: a bank's next retry (R64). -/
def execRetryStart (b : Fin 8) (s : State) : Result := .next (s.whenDue (s.retryDueAt b) (fun t => t.startRetry b))

/-- The entry of an element in the move set in flight. -/
def State.moveOf (s : State) (e : Nat) : Option Move :=
  match s.engine.flight with
  | some f => f.moves.find? (fun m => m.elem = e)
  | none => none

/-- When an element is ready. -/
def State.readyDue (s : State) (e : Nat) : Option Micros :=
  match s.moveOf e with
  | some m =>
    match m.prog with
    | .settling _ t => some t
    | _ => none
  | none => none

/-- Verify an element at its ready time. -/
def State.readyNow (s : State) (e : Nat) : State :=
  match s.moveOf e with
  | some m =>
    match m.prog with
    | .settling retry _ => s.verify e m.target retry
    | _ => s
  | none => s

/-- ELEMENT_READY (R63, R65). -/
def execElementReady (e : Nat) (s : State) : Result := .next (s.whenDue (s.readyDue e) (fun t => t.readyNow e))

/-! ### The hold limit (R103) -/

/-- When the hold clock of the plan in flight expires. -/
def State.holdDue (s : State) : Option Micros :=
  match s.engine.flight with
  | some f => if f.phase = .move ∧ s.supply.st = .cut then f.holdLimit else none
  | none => none

/-- An element that the hold limit withdraws: not begun, or waiting for its retry. -/
def Move.held (m : Move) : Bool :=
  match m.prog with
  | .waiting => true
  | .retryDue _ => true
  | _ => false

/-- The hold limit expires: nothing more of the plan starts, and what has not begun is withdrawn. -/
def State.holdExpires (s : State) : State :=
  match s.engine.flight with
  | some f =>
    (f.moves.filter Move.held).foldl withdrawMove (s.setFlight { f with holdExpired := true, holdLimit := none })
  | none => s

/-- HOLD_LIMIT_EXPIRY (R103). -/
def execHoldLimitExpiry (s : State) : Result := .next (s.whenDue s.holdDue State.holdExpires)

/-! ### Counted readings (R20, R21) -/

/-- When the report of an element is counted. -/
def State.countDue (s : State) (e : Nat) : Option Micros :=
  match tget s.elems e with
  | some x =>
    match x.st, x.counting with
    | .moving _ _, _ => none
    | _, some (_, t) => some t
    | _, none => none
  | none => none

/-- The element's record after a reading is counted: IDLE and UNKNOWN take the state the reading gives, FAULT keeps its state. -/
def takeReading (r : Reading) (x : Element) : Element :=
  let st := if x.st = .fault then ElemState.fault else if r.asPos.isSome then .idle else .unknown
  { x with pos := r.asPos, st := st, sense := some r, counting := none }

/-- A DRIFT notice: the old and the new recorded position. -/
def State.driftNotice (s : State) (e : Nat) (old new : Option Nat) : State :=
  s.notify .drift (vElem e) (vJoin ':' [vPos old, vPos new])

/-- A reading is counted: an IDLE element has drifted, and its claims are broken; another queues its notice when its recorded
position changes. -/
def State.countReading (s : State) (e : Nat) : State :=
  match tget s.elems e with
  | some x =>
    match x.counting with
    | some (r, _) =>
      let s1 := s.modElem e (takeReading r)
      if x.st = .idle then (s1.driftNotice e x.pos r.asPos).breakClaims .drift e
      else if x.pos = r.asPos then s1
      else s1.driftNotice e x.pos r.asPos
    | none => s
  | none => s

/-- READING_COUNTED (R20, R21). -/
def execReadingCounted (e : Nat) (s : State) : Result := .next (s.whenDue (s.countDue e) (fun t => t.countReading e))

/-! ### Timers (R156, R160, R164, R171, R172) -/

/-- QUALIFICATION_END (R156). -/
def execQualificationEnd (i : Fin 4) (s : State) : Result :=
  .next (s.whenDue s.timers.ins[i].qual (fun t => t.filteredChange i (!t.timers.ins[i].level)))

/-- When the pace timer expires. -/
def State.paceDue (s : State) : Option Micros :=
  match s.timers.pace.phase with
  | .counting t => some t
  | _ => none

/-- The pace timer expires at a moment: it reloads, or waits for the next rise in RETRIG mode, and the event goes to the
Sequencer (R166 to R168). -/
def State.paceExpires (s : State) (t : Micros) : State :=
  let p := if s.settings.pace.mode = .retrig then { s.timers.pace with phase := .ready }
    else reloadPace t s.settings.pace.count s.timers.pace
  { s with timers := { s.timers with pace := p } }.advanceEvent .pace

/-- PACE_EXPIRY (R164, R166 to R168). -/
def execPaceExpiry (s : State) : Result := .next (s.whenDue s.paceDue (fun t => t.paceExpires (s.paceDue.getD 0)))

/-- When the window of the current step closes. -/
def State.windowDue (s : State) : Option Micros :=
  match s.seq, s.timers.window with
  | some r, .running since =>
    if r.mode = .waiting ∧ (s.runList r).late ≠ 0 then some (since + (s.runList r).late) else none
  | _, _ => none

/-- The window closes (R138). -/
def State.windowCloses (s : State) : State :=
  match s.seq with
  | some r =>
    let l := s.runList r
    let s1 := (s.stopWindow l.late).notify .late (vStep r.step) (vNum l.late)
    if l.lateForce then s1.enterSwitching r else s1.enterHalted r .wait "LATE"
  | none => s

/-- WINDOW_CLOSE (R138, R171). -/
def execWindowClose (s : State) : Result := .next (s.whenDue s.windowDue State.windowCloses)

/-- When the dwell expires. -/
def State.dwellDue (s : State) : Option Micros :=
  match s.seq, s.timers.dwell with
  | some r, .running t => if r.mode = .dwell then some t else none
  | _, _ => none

/-- The dwell expires: the step ends (R147). -/
def State.dwellExpires (s : State) : State :=
  match s.seq with
  | some r => s.stepEnd r
  | none => s

/-- DWELL_EXPIRY (R147, R172). -/
def execDwellExpiry (s : State) : Result := .next (s.whenDue s.dwellDue State.dwellExpires)

/-- When the pulse of an output ends. -/
def State.pulseDue (s : State) (o : Fin 4) : Option Micros :=
  match s.timers.outs[o] with
  | .pulse t => some t
  | _ => none

/-- OUTPUT_PULSE_END (R160). -/
def execOutputPulseEnd (o : Fin 4) (s : State) : Result := .next (s.whenDue (s.pulseDue o) (fun t => t.setOut o .off))

/-! ### Image Store (R204 to R206) -/

/-- When the flush clock expires. -/
def State.flushDue (s : State) : Option Micros :=
  match s.store.clock with
  | .running t => some t
  | _ => none

/-- FLUSH_CLOCK_EXPIRY (R205). -/
def execFlushClockExpiry (s : State) : Result :=
  .next (s.whenDue s.flushDue (fun t => { t with store := { t.store with clock := .due } }.storeFree))

/-- The earliest moment a save can end (R203). -/
def State.saveDue (s : State) : Option Micros :=
  match s.store.st with
  | .saving copy since => some (since + saveMin copy)
  | _ => none

/-- The STORE notice of a store operation (R204, R206). -/
def State.storeNotice (s : State) (what : String) (good : Bool) : State :=
  s.notify .store (vWord what) (vWord (if good then "OK" else "FAIL"))

/-- A save ends with its read-back (R204). -/
def State.saveEnds (s : State) (good : Bool) : State :=
  match s.store.st with
  | .saving copy _ =>
    let sec := if good then some ⟨copy, s.store.image.saveNo⟩ else none
    let s1 := { s with store := { s.store with
        image := { s.store.image with table := sec }, st := .idle, cond := if good then .good else .bad } }
    ((if good then s1 else s1.markWear).storeNotice "SAVE" good).storeFree
  | _ => s

/-- SAVE_COMPLETE, with the result of the read-back (R204). -/
def execSaveComplete (readBack : Bool) (s : State) : Result := .next (s.whenDue s.saveDue (fun t => t.saveEnds readBack))

/-- When a flush ends. -/
def State.flushEndDue (s : State) : Option Micros :=
  match s.store.st with
  | .flushing _ _ since => some (since + Config.flushWrite)
  | _ => none

/-- A flush ends with its read-back (R206); a final flush that ran has ended (R209). -/
def State.flushEnds (s : State) (good : Bool) : State :=
  match s.store.st with
  | .flushing toB copy _ =>
    let s1 := { s with
      store := { s.store with image := s.store.image.setSlot toB (if good then some copy else none), st := .idle }
      link := { s.link with stop := if s.link.stop = some FinalFlush.running then some .ended else s.link.stop } }
    ((if good then s1 else s1.markWear).storeNotice "FLUSH" good).storeFree
  | _ => s

/-- FLUSH_COMPLETE, with the result of the read-back (R206). -/
def execFlushComplete (readBack : Bool) (s : State) : Result :=
  .next (s.whenDue s.flushEndDue (fun t => t.flushEnds readBack))

end Sys2Proof.Machine
end

