-- ==== Sys2Proof/Machine/Dispatch.lean ====
section
/-! DEFINITION. Dispatch: one arm per command. -/

namespace Sys2Proof.Machine

def exec (i : Instr) (s : State) : Host.Outcome State Fault Refusal :=
  match i with
  | .recordReceived => Sys2Proof.Machine.execRecordReceived s
  | .linkBreak => Sys2Proof.Machine.execLinkBreak s
  | .badRecord => Sys2Proof.Machine.execBadRecord s
  | .replyTransmitStart => Sys2Proof.Machine.execReplyTransmitStart s
  | .replySent => Sys2Proof.Machine.execReplySent s
  | .node args => Sys2Proof.Machine.execNode args s
  | .nodeQuery args => Sys2Proof.Machine.execNodeQuery args s
  | .elem args => Sys2Proof.Machine.execElem args s
  | .elemQuery args => Sys2Proof.Machine.execElemQuery args s
  | .posn args => Sys2Proof.Machine.execPosn args s
  | .path args => Sys2Proof.Machine.execPath args s
  | .pathQuery args => Sys2Proof.Machine.execPathQuery args s
  | .pdel args => Sys2Proof.Machine.execPdel args s
  | .link args => Sys2Proof.Machine.execLink args s
  | .unlink args => Sys2Proof.Machine.execUnlink args s
  | .unlinkAll => Sys2Proof.Machine.execUnlinkAll s
  | .heldQuery args => Sys2Proof.Machine.execHeldQuery args s
  | .safe via => Sys2Proof.Machine.execSafe via s
  | .pulse args => Sys2Proof.Machine.execPulse args s
  | .pulseQuery args => Sys2Proof.Machine.execPulseQuery args s
  | .setl args => Sys2Proof.Machine.execSetl args s
  | .setlQuery args => Sys2Proof.Machine.execSetlQuery args s
  | .bank args => Sys2Proof.Machine.execBank args s
  | .bankQuery args => Sys2Proof.Machine.execBankQuery args s
  | .planQuery kw args => Sys2Proof.Machine.execPlanQuery kw args s
  | .guard args => Sys2Proof.Machine.execGuard args s
  | .rfth args => Sys2Proof.Machine.execRfth args s
  | .mute args => Sys2Proof.Machine.execMute args s
  | .muteQuery args => Sys2Proof.Machine.execMuteQuery args s
  | .senseQuery args => Sys2Proof.Machine.execSenseQuery args s
  | .supplyQuery args => Sys2Proof.Machine.execSupplyQuery args s
  | .wearLim args => Sys2Proof.Machine.execWearLim args s
  | .wearClr args => Sys2Proof.Machine.execWearClr args s
  | .wearQuery args => Sys2Proof.Machine.execWearQuery args s
  | .freq args => Sys2Proof.Machine.execFreq args s
  | .freqQuery args => Sys2Proof.Machine.execFreqQuery args s
  | .lossE args => Sys2Proof.Machine.execLossE args s
  | .lossN args => Sys2Proof.Machine.execLossN args s
  | .lossQuery kw args => Sys2Proof.Machine.execLossQuery kw args s
  | .step args => Sys2Proof.Machine.execStep args s
  | .stepQuery args => Sys2Proof.Machine.execStepQuery args s
  | .sdel args => Sys2Proof.Machine.execSdel args s
  | .list args => Sys2Proof.Machine.execList args s
  | .listQuery args => Sys2Proof.Machine.execListQuery args s
  | .ldel args => Sys2Proof.Machine.execLdel args s
  | .arm args => Sys2Proof.Machine.execArm args s
  | .go via => Sys2Proof.Machine.execGo via s
  | .halt via args => Sys2Proof.Machine.execHalt via args s
  | .resume args => Sys2Proof.Machine.execResume args s
  | .abort args => Sys2Proof.Machine.execAbort args s
  | .seqQuery args => Sys2Proof.Machine.execSeqQuery args s
  | .trin args => Sys2Proof.Machine.execTrin args s
  | .trinQuery args => Sys2Proof.Machine.execTrinQuery args s
  | .trout args => Sys2Proof.Machine.execTrout args s
  | .troutQuery args => Sys2Proof.Machine.execTroutQuery args s
  | .pace args => Sys2Proof.Machine.execPace args s
  | .paceQuery args => Sys2Proof.Machine.execPaceQuery args s
  | .snap args => Sys2Proof.Machine.execSnap args s
  | .snapQuery args => Sys2Proof.Machine.execSnapQuery args s
  | .noteQuery args => Sys2Proof.Machine.execNoteQuery args s
  | .attn args => Sys2Proof.Machine.execAttn args s
  | .statQuery args => Sys2Proof.Machine.execStatQuery args s
  | .identQuery args => Sys2Proof.Machine.execIdentQuery args s
  | .save args => Sys2Proof.Machine.execSave args s
  | .load args => Sys2Proof.Machine.execLoad args s
  | .storeQuery args => Sys2Proof.Machine.execStoreQuery args s
  | .reset via => Sys2Proof.Machine.execReset via s
  | .quietChange high => Sys2Proof.Machine.execQuietChange high s
  | .detectorReading d centiDbm => Sys2Proof.Machine.execDetectorReading d centiDbm s
  | .muteTimeout => Sys2Proof.Machine.execMuteTimeout s
  | .releaseIntervalEnd => Sys2Proof.Machine.execReleaseIntervalEnd s
  | .waveStart b => Sys2Proof.Machine.execWaveStart b s
  | .waveEnd b => Sys2Proof.Machine.execWaveEnd b s
  | .retryStart b => Sys2Proof.Machine.execRetryStart b s
  | .elementReady e => Sys2Proof.Machine.execElementReady e s
  | .supplyChange centivolts => Sys2Proof.Machine.execSupplyChange centivolts s
  | .holdLimitExpiry => Sys2Proof.Machine.execHoldLimitExpiry s
  | .senseReportChange b slot closed => Sys2Proof.Machine.execSenseReportChange b slot closed s
  | .readingCounted e => Sys2Proof.Machine.execReadingCounted e s
  | .triggerInputChange inp high => Sys2Proof.Machine.execTriggerInputChange inp high s
  | .qualificationEnd inp => Sys2Proof.Machine.execQualificationEnd inp s
  | .paceExpiry => Sys2Proof.Machine.execPaceExpiry s
  | .windowClose => Sys2Proof.Machine.execWindowClose s
  | .dwellExpiry => Sys2Proof.Machine.execDwellExpiry s
  | .outputPulseEnd o => Sys2Proof.Machine.execOutputPulseEnd o s
  | .flushClockExpiry => Sys2Proof.Machine.execFlushClockExpiry s
  | .saveComplete readBack => Sys2Proof.Machine.execSaveComplete readBack s
  | .flushComplete readBack => Sys2Proof.Machine.execFlushComplete readBack s
  | .commandStart => Sys2Proof.Machine.execCommandStart s
  | .powerStart => Sys2Proof.Machine.execPowerStart s
  | .lineStart => Sys2Proof.Machine.execLineStart s
  | .resetRelease => Sys2Proof.Machine.execResetRelease s
  | .startUpComplete straps => Sys2Proof.Machine.execStartUpComplete straps s
  | .commandPairCharacter code framing => Sys2Proof.Machine.execCommandPairCharacter code framing s
  | .replyPairCharacter => Sys2Proof.Machine.execReplyPairCharacter s
  | .powerLoss => Sys2Proof.Machine.execPowerLoss s

end Sys2Proof.Machine
end

