-- ==== Sys2Proof/Machine/Ticks.lean ====
section
/-! DEFINITION. What happens on an empty command queue: the first event that is due, or the passing of 1 µs (log entry 1). -/

namespace Sys2Proof.Machine

/-- A timed row with its due moment, when it has one. -/
def dueRow (due : Option Micros) (i : Instr) : List (Micros × Instr) :=
  match due with
  | some t => [(t, i)]
  | none => []

def allInputs : List (Fin 4) := [0, 1, 2, 3]

/-- The elements of the move set in flight. -/
def State.movingElems (s : State) : List Nat :=
  match s.engine.flight with
  | some f => f.moves.map (·.elem)
  | none => []

/-- The moment a save ends of itself: the free length of log entry 11. -/
def State.saveEndDue (s : State) : Option Micros :=
  match s.store.st with
  | .saving copy since => some (since + saveTime copy s.store.image.writes)
  | _ => none

/-- The events of the timers and trigger lines. -/
def State.timerEvents (s : State) : List (Micros × Instr) :=
  allInputs.flatMap (fun o => dueRow (s.pulseDue o) (.outputPulseEnd o)) ++
    allInputs.flatMap (fun i => dueRow s.timers.ins[i].qual (.qualificationEnd i)) ++
    dueRow s.paceDue .paceExpiry ++ dueRow s.windowDue .windowClose ++ dueRow s.dwellDue .dwellExpiry

/-- The events of the guard and the engine: waves end and elements are ready before new waves start (log entry 8). -/
def State.engineEvents (s : State) : List (Micros × Instr) :=
  dueRow s.muteDue .muteTimeout ++ dueRow s.guard.releaseEnd .releaseIntervalEnd ++
    allBanks.flatMap (fun b => dueRow (s.waveEndsAt b) (.waveEnd b)) ++
    s.movingElems.flatMap (fun e => dueRow (s.readyDue e) (.elementReady e)) ++
    allBanks.flatMap (fun b => dueRow (s.waveDue b) (.waveStart b)) ++
    allBanks.flatMap (fun b => dueRow (s.retryDueAt b) (.retryStart b)) ++ dueRow s.holdDue .holdLimitExpiry ++
    s.elems.flatMap (fun kv => dueRow (s.countDue kv.1) (.readingCounted kv.1))

/-- The events of the store and the link. -/
def State.storeLinkEvents (s : State) : List (Micros × Instr) :=
  dueRow s.flushDue .flushClockExpiry ++
    dueRow s.saveEndDue (.saveComplete (Config.saveReadBack s.store.image.writes)) ++
    dueRow s.flushEndDue (.flushComplete (Config.flushReadBack s.store.image.writes)) ++
    dueRow s.sendDue .replyTransmitStart ++ dueRow s.sentDue .replySent ++
    dueRow (if s.commandStartDue then some s.now else none) .commandStart

/-- Every timed event that has a due moment, in the order the model takes those that fall together (log entry 8). -/
def State.timedEvents (s : State) : List (Micros × Instr) :=
  match s.life with
  | .running => s.timerEvents ++ s.engineEvents ++ s.storeLinkEvents
  | .starting _ t => [(t, .startUpComplete s.straps)]
  | _ => []

/-- The event taken now, if one is due. -/
def State.dueEvent (s : State) : Option Instr := (s.timedEvents.find? (fun te => te.1 ≤ s.now)).map (·.2)

/-- One µs passes. -/
def State.tick (s : State) : State := { s with now := s.now + 1 }

end Sys2Proof.Machine
end

