-- ==== Sys2Proof/Safety.lean ====
section
/-! DEFINITION. What counts as a safe run, in the terms the statements use: which records a station takes, what a chain of
instants leaves alone, the invariants every step keeps, and the argument forms the statements are written with. -/

namespace Sys2Proof

/-- The command stands for a record of the link (R181 to R185); the other rows are events. -/
def Instr.isRecord : Instr → Bool
  | .recordReceived | .linkBreak | .replyTransmitStart | .replySent | .quietChange _ | .detectorReading _ _ | .muteTimeout
  | .releaseIntervalEnd | .waveStart _ | .waveEnd _ | .retryStart _ | .elementReady _ | .supplyChange _ | .holdLimitExpiry
  | .senseReportChange _ _ _ | .readingCounted _ | .triggerInputChange _ _ | .qualificationEnd _ | .paceExpiry | .windowClose
  | .dwellExpiry | .outputPulseEnd _ | .flushClockExpiry | .saveComplete _ | .flushComplete _ | .commandStart | .powerStart
  | .lineStart | .resetRelease | .startUpComplete _ | .commandPairCharacter _ _ | .replyPairCharacter | .powerLoss => false
  | _ => true

/-- The queries that only read: every query but `SNAP?`, `NOTE?` and `STAT?`, which clear what they return. -/
def Instr.isPureQuery : Instr → Bool
  | .nodeQuery _ | .elemQuery _ | .pathQuery _ | .heldQuery _ | .pulseQuery _ | .setlQuery _ | .bankQuery _ | .planQuery _ _
  | .muteQuery _ | .senseQuery _ | .supplyQuery _ | .wearQuery _ | .freqQuery _ | .lossQuery _ _ | .stepQuery _ | .listQuery _
  | .seqQuery _ | .trinQuery _ | .troutQuery _ | .paceQuery _ | .identQuery _ | .storeQuery _ => true
  | _ => false

/-- The rows that begin or end a write of the non-volatile memory (R203 to R206, R209), or may take a record that does: the CR
that ends a record. -/
def Instr.writesImage : Instr → Bool
  | .save _ | .reset _ | .flushClockExpiry | .saveComplete _ | .flushComplete _ | .recordReceived => true
  | .commandPairCharacter c framing => c = 13#8 && !framing
  | _ => false

end Sys2Proof

namespace Sys2Proof.Machine

/-! ### Argument forms -/

abbrev aId (k : IdKind) (n : Nat) : Arg := .one (.ident k n)
abbrev aNum (n : Nat) : Arg := .one (.num n)
abbrev aWord (w : Kw) : Arg := .one (.word w)

/-- A terminal as `ELEM` takes it: a node or a hyphen. -/
def aTerminal : Option Nat → Arg
  | some n => aId .n n
  | none => .one .hyphen

/-- The arguments of `ELEM` for a definition, the safe position given (R11). -/
def elemArgs (e : Nat) (kind tech : Kw) (d : ElemDef) : List Arg :=
  aId .e e :: aWord kind :: aWord tech :: aId .b d.bank.val :: aNum d.slot.val :: (d.terms.map aTerminal ++ [aNum d.safe])

/-- The arguments of `PATH` for a definition, profile k given (R29). -/
def pathArgs (p k : Nat) (d : RouteDef) : List Arg :=
  aId .p p :: aId .n d.src :: aId .n d.dst :: aId .p k :: d.hops.flatMap (fun h => [aId .e h.1, aNum h.2])

/-! ### Stations -/

/-- The station takes a record at once: it runs and hears it, nothing is queued before it, and it can be answered (R179, R181,
R185, R189). -/
def State.takes (s : State) (v : Via) : Prop := s.hears v = true ∧ s.link.inbound = [] ∧ s.ready v = true

/-- Nothing is due at this moment: what every chain of instants ends in (R51, R147). -/
def State.calm (s : State) : Prop := s.instant = none

/-- The station takes an addressed record, and nothing else is due. -/
def State.takesAlone (s : State) : Prop := s.takes .addressed ∧ s.calm

/-- The controller runs and nothing is due. -/
def State.still (s : State) : Prop := s.life = .running ∧ s.calm

/-! ### What a chain of instants leaves alone -/

/-- The parts of the state that no chain of instants touches: the definitions and losses of elements, the definitions of
routes, and the rest as it stands whole. -/
structure Kept where
  pending    : List Instr
  now        : Micros
  life       : Life
  resetLine  : Bool
  straps     : Straps
  nodes      : Table Node
  elemDefs   : List (Nat × ElemDef × List (List Cdb))
  senseLines : Vector (BitVec 8) 64
  routeDefs  : List (Nat × RouteDef × List Nat × List HopConn)
  settings   : Settings
  supply     : Supply
  link       : Link
  image      : Image
  storeState : StoreState
  cond       : ImageCond
  found      : Bool

def State.kept (s : State) : Kept :=
  ⟨s.pending, s.now, s.life, s.resetLine, s.straps, s.nodes, s.elems.map (fun kv => (kv.1, kv.2.d, kv.2.losses)), s.senseLines,
    s.routes.map (fun kv => (kv.1, kv.2.d, kv.2.nodes, kv.2.conns)), s.settings, s.supply, s.link, s.store.image, s.store.st,
    s.store.cond, s.store.found⟩

/-- What the beginning of a start leaves (R210): every block has dropped its work, no slot is driven, INHIBIT is released, every
output is low, no reply is queued or sent, no notice is queued, and a write in progress is cut. What remains: the non-volatile
memory, the levels of the inputs, the straps as last read, the moment, and the model's own queue. -/
def workDropped (s t : State) : Prop :=
  (t.nodes = [] ∧ t.elems = [] ∧ t.routes = [] ∧ t.held = [] ∧ t.engine = Engine.blank ∧ t.guard.inhibit = false ∧
    t.guard.releaseEnd = none ∧ t.seq = none ∧ t.timers.outs = Vector.replicate 4 .off ∧ t.timers.latch = .empty ∧
    t.link = Link.blank ∧ t.notices = [] ∧ t.store.st = .idle ∧ t.store.mark = false ∧ t.store.clock = .absent) ∧
    t.store.image = s.store.image ∧ t.guard.dets = s.guard.dets ∧ t.guard.quiet = s.guard.quiet ∧ t.supply = s.supply ∧
    t.senseLines = s.senseLines ∧ t.timers.ins = s.timers.ins ∧ t.straps = s.straps ∧ t.now = s.now ∧ t.pending = s.pending

/-! ### Invariants -/

/-- A property of tables that holds of the live tables, of the tables in the non-volatile memory, and of the save copy. -/
def State.everyTables (P : Tables → Prop) (s : State) : Prop :=
  P s.tables ∧ (∀ sec, s.store.image.table = some sec → P sec.tables) ∧ ∀ copy since, s.store.st = .saving copy since → P copy

/-- A property of wear fields that holds of both wear slots and of a flush being written. -/
def State.everyWearTable (P : Table Wear → Prop) (s : State) : Prop :=
  (∀ w, s.store.image.slotA = some w → P w.wear) ∧ (∀ w, s.store.image.slotB = some w → P w.wear) ∧
    ∀ b w since, s.store.st = .flushing b w since → P w.wear

/-- Every table is keyed in strictly rising order. -/
def Tables.sorted (t : Tables) : Prop :=
  tsorted t.nodes ∧ tsorted t.elems ∧ tsorted t.routes ∧ tsorted t.settings.steps ∧ tsorted t.settings.lists

/-- Every table the state holds, live or stored, has its canonical form. -/
def State.canonical (s : State) : Prop := s.everyTables Tables.sorted ∧ s.everyWearTable tsorted

/-- The Notice Queue of R193: at most 16 entries, an OVERFLOW entry only as the newest, and always as the sixteenth. -/
def noticesLegal (q : List Notice) : Prop :=
  q.length ≤ 16 ∧ (∀ n ∈ q.dropLast, n.kind ≠ .overflow) ∧
    (q.length = 16 → ∃ n, q.getLast? = some n ∧ n.kind = .overflow)

/-- The bounds of the queues (R51, R184, R186, R193): four waiting plans, eight records, eight replies, sixteen notices. -/
def State.queuesLegal (s : State) : Prop :=
  s.engine.waiting.length ≤ 4 ∧ s.link.inbound.length ≤ 8 ∧ s.link.replies.length ≤ 8 ∧ noticesLegal s.notices

/-- While the sequencer is IDLE, every output is LOW with drive NONE and the pace, window and dwell timers are stopped (R134,
R159, R165). -/
def State.idleQuiet (s : State) : Prop :=
  s.seq = none →
    s.timers.outs = Vector.replicate 4 .off ∧ s.timers.pace.phase = .stopped ∧ s.timers.pace.pend = false ∧
      s.timers.window = .stopped 0 ∧ s.timers.dwell = .stopped

/-- A list of loss values fits a grid: one value per grid point, each 0..3,000 cdB (R112). -/
def lossListFits (grid : List Nat) (l : List Cdb) : Prop := l.length = grid.length ∧ ∀ v ∈ l, v ≤ 3000

/-- The loss lists of R112: every element has one for each of its connections, every INNER node has one and no other node
has any. -/
def Tables.lossesFit (t : Tables) : Prop :=
  (∀ kv ∈ t.elems, kv.2.losses.length = kv.2.d.kind.connections ∧ ∀ l ∈ kv.2.losses, lossListFits t.settings.grid l) ∧
    ∀ kv ∈ t.nodes, if kv.2.kind = .inner then lossListFits t.settings.grid kv.2.losses else kv.2.losses = []

/-- A time as it is stored: a multiple of 10 µs within its range. -/
abbrev timeIn (lo hi t : Nat) : Prop := lo ≤ t ∧ t ≤ hi ∧ t % 10 = 0

/-- The nodes of R1: a detector and a guard mode on INSTR nodes only, and a detector wherever the mode watches one. -/
def Node.legal (x : Node) : Prop :=
  (x.det.isSome = true → x.kind = .instr) ∧ (x.guard.isSome = true ↔ x.kind = .instr) ∧
    ((x.guard = some .sense ∨ x.guard = some .both) → x.det.isSome = true)

/-- An element definition of R5 and R6: terminals as many as its kind has, a legal safe position, EMF as SP2 only. -/
def ElemDef.legal (d : ElemDef) : Prop :=
  d.terms.length = d.kind.terminals ∧ legalPos d.kind d.tech d.safe = true ∧ (d.tech = .emf → d.kind = .sp2)

/-- A step record in range (R123, R126). -/
def StepRec.legal (st : StepRec) : Prop :=
  1 ≤ st.ops.length ∧ st.ops.length ≤ 4 ∧ timeIn 0 10000000 st.dwellA ∧ timeIn 0 10000000 st.dwellB ∧
    ∀ o ∈ st.ops, inRoute o.route = true

/-- A list record in range (R129, R130). -/
def ListRec.legal (l : ListRec) : Prop :=
  l.first ≤ l.last ∧ l.last < 256 ∧ l.passes ≤ 65535 ∧ l.pattern ≤ 65535 ∧ timeIn 0 10000000 l.early ∧
    timeIn 0 10000000 l.late ∧ (l.late = 0 ∨ l.early < l.late) ∧ ∀ f, l.freq = some f → inFreq f = true

/-- A pace setting in range (R164, R169): a gate in GATED and RETRIG mode, and a count of 1 in RETRIG mode only. -/
def PaceSetting.legal (p : PaceSetting) : Prop :=
  p.count ≤ 16777215 ∧ (p.count = 1 → p.mode = .retrig) ∧ (p.gate.isSome = true ↔ p.mode ≠ .rate)

/-- The settings in their ranges (R61, R70 to R72, R84, R90, R112, R123, R129, R163, R164). -/
def Settings.legal (c : Settings) : Prop :=
  timeIn 2000 50000 c.pulseEml ∧ timeIn 2000 50000 c.pulseEmf ∧ (∀ k p, timeIn 0 200000 (c.settleTime k p)) ∧
    (∀ b : Fin 8, 1 ≤ c.waveSize[b] ∧ c.waveSize[b] ≤ 8) ∧ (∀ d : Fin 8, -80 ≤ c.threshold[d] ∧ c.threshold[d] ≤ 60) ∧
    timeIn 1000 2000000 c.mute ∧
    (c.grid ≠ [] ∧ c.grid.length ≤ 8 ∧ c.grid.all inFreq = true ∧ ascending c.grid = true) ∧
    (∀ kv ∈ c.steps, inStep kv.1 = true ∧ kv.2.legal) ∧ (∀ kv ∈ c.lists, inList kv.1 = true ∧ kv.2.legal) ∧
    (∀ o : Fin 4, timeIn 0 655350 c.widths[o]) ∧ c.pace.legal

/-- Every record and setting in its range, under a number in its range. -/
def Tables.legal (t : Tables) : Prop :=
  (∀ kv ∈ t.nodes, inNode kv.1 = true ∧ kv.2.legal) ∧ (∀ kv ∈ t.elems, inElem kv.1 = true ∧ kv.2.d.legal) ∧
    (∀ kv ∈ t.routes, inRoute kv.1 = true ∧ 1 ≤ kv.2.hops.length ∧ kv.2.hops.length ≤ 8) ∧ t.settings.legal

/-- Wear fields in their ranges (R106). -/
def Wear.legal (w : Wear) : Prop := w.life ≤ 99999999 ∧ w.hot ≤ 65535 ∧ w.limit ≤ 99999999

/-- Every wear field the state holds, live or stored, is in its range. -/
def State.wearLegal (s : State) : Prop :=
  s.everyTables (fun t => ∀ kv ∈ t.elems, kv.2.wear.legal) ∧ s.everyWearTable (fun t => ∀ kv ∈ t, kv.2.legal)

/-! ### The Held Set (R18, R34, R36 to R38)

What R34 says of the Held Set rests on the Plan Queue, on definitions that pass their checks (R27, R124), and on the Sequencer
keeping the queue to itself while a list is armed. `State.heldSound` says all of it. -/

/-- Routes that may be held together (R34): none twice, at most 32, no two in conflict. -/
def State.holdable (s : State) (rs : List Nat) : Prop :=
  rs.Nodup ∧ rs.length ≤ 32 ∧ ∀ p ∈ rs, ∀ q ∈ rs, p ≠ q → s.conflicts p q = false

/-- A waiting plan will take a route out of the Held Set: the route carries one of the plan's marks (R37, R38). -/
def State.releasedBy (s : State) (w : Plan) (r : Nat) : Bool :=
  match (tget s.routes r).bind (·.mark) with
  | some m => m.plan = w.id && w.releases.contains (r, m.kind)
  | none => false

/-- The routes that may be held once a waiting plan has run: those its releases leave, and the routes it links. -/
def State.heldAfter (s : State) (rs : List Nat) (w : Plan) : List Nat :=
  let kept := rs.filter (fun r => !s.releasedBy w r)
  kept ++ (w.links.map (·.route)).filter (fun r => !kept.contains r)

/-- The waiting plans keep the Held Set sound, from the routes that may be held when the first of them starts: after each, what
may be held may be held together; a POSN plan finds no route that names its element (R22, R23); a SAFE plan finds none at all
(R46); and in the end no route carries a mark, so that all of them are in the projection (R36). -/
def State.queueSound (s : State) : List Nat → List Plan → Prop
  | rs, [] => ∀ r ∈ rs, s.unmarked r = true
  | rs, w :: ws =>
    let next := s.heldAfter rs w
    s.holdable next ∧
      (w.kind = .posn → ∀ q, w.posn = some q → ∀ r ∈ next, s.routeNames q.elem r = false) ∧
      (w.kind = .safe → next = []) ∧ s.queueSound next ws

/-- The routes that may be held when the plan in flight is ready: those held, and those it links. -/
def State.heldNext (s : State) : List Nat := s.held ++ s.linksInFlight.filter (fun r => !s.held.contains r)

/-- Every route that a plan of the queue will link. -/
def State.linksQueued (s : State) : List Nat := s.linksInFlight ++ s.linksWaiting

/-- The plans of the queue that may still act: a plan that has been cut does not. -/
def State.uncutPlans (s : State) : List Plan :=
  (match s.engine.flight with
   | some f => if f.phase = .cut then [] else [f.plan]
   | none => []) ++ s.engine.waiting

/-- The routes as a start or a LOAD derives them from tables (R48, R49). -/
def Tables.derived (t : Tables) : State :=
  let s : State := { State.reset with
    nodes := t.nodes
    elems := t.elems.map (fun kv => (kv.1, ⟨kv.2.d, kv.2.losses, kv.2.wear, none, .unknown, none, none⟩)) }
  { s with routes := s.freshRoutes t.routes }

/-- Every defined route passes its continuity check (R27), and the ops of every step pass the test of R124. -/
def Tables.checked (t : Tables) : Prop :=
  (∀ p d, tget t.routes p = some d → ∃ ns cs, t.derived.continuity d = .ok (ns, cs)) ∧
    ∀ n st, tget t.settings.steps n = some st → opsTest t.derived.conflicts st.ops = none

/-- The Held Set of R34, and what keeps it so. -/
structure State.heldSound (s : State) : Prop where
  /-- No route is held twice, at most 32 are held, and no two held routes conflict. -/
  together : s.holdable s.held
  /-- Every element a held route names is IDLE in the position the route requires. -/
  inPlace : ∀ p ∈ s.held, ∀ x, tget s.routes p = some x → ∀ h ∈ x.d.hops, s.inPlace h.1 h.2 = true
  /-- The Held Set holds the HELD routes. -/
  states : ∀ p, p ∈ s.held ↔ s.routeState p = some .held
  /-- An IDLE route carries no mark (R26). -/
  idle : ∀ p x, tget s.routes p = some x → x.st = .idle → x.mark = none
  /-- A mark is carried by a waiting plan (R26, R37). -/
  marked : ∀ p x m, tget s.routes p = some x → x.mark = some m →
    ∃ w ∈ s.engine.waiting, w.id = m.plan ∧ (p, m.kind) ∈ w.releases
  /-- Serial numbers are given out once. -/
  numbered : (s.engine.waiting.map (·.id)).Nodup ∧ ∀ w ∈ s.engine.waiting, w.id < s.engine.nextId
  /-- No two ops of the queue link the same route. -/
  linkedOnce : s.linksQueued.Nodup
  /-- The plan in flight adds what may be held together, and the waiting plans after it. -/
  flight : s.holdable s.heldNext
  waiting : s.queueSound s.heldNext s.engine.waiting
  /-- No held route names an element of the move set in flight. -/
  moving : ∀ f, s.engine.flight = some f → ∀ m ∈ f.moves, ∀ p ∈ s.held, s.routeNames m.elem p = false
  /-- While nothing is armed, no STEP plan may still act, and the routes to be linked are PENDING. -/
  unarmed : s.seq = none → (∀ w ∈ s.uncutPlans, w.kind ≠ .step) ∧ ∀ p ∈ s.linksQueued, s.routeState p = some .pending
  /-- While a list is armed, the queue is empty but for the current step's submitted plan, whose routes steps name. -/
  armed : ∀ r, s.seq = some r →
    (s.engine.flight = none ∧ s.engine.waiting = []) ∨
      ((∃ due, r.mode = .switching true due) ∧ (∃ w, s.uncutPlans = [w] ∧ w.kind = .step) ∧
        ∀ p ∈ s.linksQueued, s.stepRefs p ≠ [])
  /-- The definitions, live and stored, pass their checks, and live routes hold what the check derives (R27). -/
  defined : s.everyTables Tables.checked
  derived : ∀ p x, tget s.routes p = some x → s.continuity x.d = .ok (x.nodes, x.conns)
  /-- A controller that does not run holds no route and no work (R24, R48, R81, R155). -/
  stopped : s.life ≠ .running → s.held = [] ∧ s.engine.flight = none ∧ s.engine.waiting = [] ∧ s.seq = none

/-- A step that does not stop. -/
def goesOn (o : Host.Outcome State Fault Refusal) : Prop := ∃ t, o = .next t

end Sys2Proof.Machine
end

