-- ==== Sys2Proof/Certificates/Slice0/Obligations.lean ====
section
/-! DEFINITION. The statements for the provers. "The station takes a record alone" is `State.takesAlone`: it runs, hears
addressed records, has nothing queued before the record, room for the reply, and nothing else due. -/

open Sys2Proof Sys2Proof.Machine

/-! ### The block -/

/-- A step runs the command at the front of the queue with the rest of the queue left in the state. -/
def Obligations.FrontCommandRuns : Prop :=
  ∀ (c : Instr) (rest : List Instr) (s : State),
    step { s with pending := c :: rest } = exec c { s with pending := rest }

/-- The model's choice for an empty queue (log entry 1): with nothing due, 1 µs passes and nothing else changes; otherwise a
timed event whose moment has come is taken, and no time passes. -/
def Obligations.EmptyQueueStep : Prop :=
  ∀ s : State, s.pending = [] →
    ((∀ te ∈ s.timedEvents, s.now < te.1) → step s = .next { s with now := s.now + 1 }) ∧
      ((∃ te ∈ s.timedEvents, te.1 ≤ s.now) → ∃ te ∈ s.timedEvents, te.1 ≤ s.now ∧ step s = exec te.2 s)

/-- No command faults or is refused: from every state, every command and every step answers a next state. -/
def Obligations.NothingStops : Prop :=
  (∀ (c : Instr) (s : State), ∃ t, exec c s = .next t) ∧ ∀ s : State, ∃ t, step s = .next t

/-- The model's reset state (log entry 4) is what a power start that finds memory never written leaves (R202, R210, R211): the
supply returns, start-up begins, and it completes with the straps of log entry 5. START_UP_COMPLETE ends start-up whenever it
comes, here at once: that is log entry 24. -/
def Obligations.ResetIsAPowerStart : Prop :=
  ∃ t, exec .powerStart { State.reset with life := .unpowered, notices := [] } = .next t ∧
    t.life = .starting .power 200000 ∧ exec (.startUpComplete resetStraps) t = .next State.reset

/-! ### Invariants that every step keeps -/

/-- Every table, live, in the non-volatile memory, in the save copy or in a wear slot, keeps its canonical form. -/
def Obligations.TablesStayCanonical : Prop :=
  ∀ s t : State, s.canonical → step s = .next t → t.canonical

/-- The Plan Queue holds at most four waiting plans (R51), the Inbound Queue and the Reply Queue at most eight entries each
(R184, R186), the Notice Queue at most 16, with an OVERFLOW entry only as the newest (R193). -/
def Obligations.QueuesStayBounded : Prop :=
  ∀ s t : State, s.queuesLegal → step s = .next t → t.queuesLegal

/-- While the sequencer is IDLE every output is LOW with drive NONE and its timers are stopped (R134, R159, R165). -/
def Obligations.IdleStaysQuiet : Prop :=
  ∀ s t : State, s.idleQuiet → step s = .next t → t.idleQuiet

/-- Every connection and every INNER node keeps one loss value of 0..3,000 cdB per grid point (R112). -/
def Obligations.LossListsFitTheGrid : Prop :=
  ∀ s t : State, s.everyTables Tables.lossesFit → step s = .next t → t.everyTables Tables.lossesFit

/-- Every definition and setting, live or stored, stays in its range, the grid keeps at least one point, and life counts, hot
counts and thresholds, live or stored, stay in theirs (R106). -/
def Obligations.StoredValuesStayInRange : Prop :=
  ∀ s t : State, s.everyTables Tables.legal ∧ s.wearLegal → step s = .next t → t.everyTables Tables.legal ∧ t.wearLegal

/-- The state after reset meets the six invariants. -/
def Obligations.ResetMeetsInvariants : Prop :=
  State.reset.canonical ∧ State.reset.queuesLegal ∧ State.reset.idleQuiet ∧ State.reset.everyTables Tables.lossesFit ∧
    State.reset.everyTables Tables.legal ∧ State.reset.wearLegal ∧ State.reset.heldSound

/-! ### Rules of the whole machine -/

/-- A refused command changes nothing: the only trace of it is its reply. -/
def Obligations.RefusalChangesNothing : Prop :=
  ∀ (c : Instr) (s t : State) (code : Code) (detail : Val), c.isRecord = true → c.via = .addressed → s.takesAlone →
    exec c s = .next t → t.link.replies = s.link.replies ++ [.nak code detail] →
    t = s.reply .addressed (.nak code detail)

/-- An addressed record that is taken receives exactly one reply, at the tail of the Reply Queue; a broadcast record receives
none. Nothing is left queued. -/
def Obligations.OneReplyEach : Prop :=
  ∀ (c : Instr) (s t : State), c.isRecord = true → s.takes c.via → exec c s = .next t →
    t.link.inbound = [] ∧ (c.via = .addressed → ∃ r, t.link.replies = s.link.replies ++ [r]) ∧
      (c.via = .broadcast → t.link.replies = s.link.replies)

/-- A record that reaches a station whose interpreter cannot take the head of the queue joins at the tail, or, as a ninth, is an
overrun: the flag is set, the count rises by 1 up to 65,535, and an OVERRUN notice carries the count. Nothing else changes. -/
def Obligations.RecordsQueueInOrder : Prop :=
  ∀ (c h : Instr) (s : State), c.isRecord = true → s.hears c.via = true → (s.link.inbound ++ [c]).head? = some h →
    s.ready h.via = false →
    (s.link.inbound.length < 8 →
      exec c s = .next { s with link := { s.link with inbound := s.link.inbound ++ [c] } }) ∧
    (8 ≤ s.link.inbound.length →
      exec c s = .next { s with
        link := { s.link with overrun := true, overruns := min 65535 (s.link.overruns + 1) }
        notices := queueNotice s.notices ⟨.overrun, s.noticeTime, [], vNum (min 65535 (s.link.overruns + 1))⟩ })

/-- A controller that does not run hears no record and no character: it is held in its start, without supply or starting up (R190,
R210; that such a record is dropped and not kept is log entry 3). At address 0 it hears no addressed record. -/
def Obligations.DeafStationsAreUnchanged : Prop :=
  ∀ (c : Instr) (s : State), c.isRecord = true →
    (s.life ≠ .running → exec c s = .next s ∧ exec .recordReceived s = .next s ∧
      ∀ code framing, exec (.commandPairCharacter code framing) s = .next s) ∧
    (s.straps.addr.val = 0 → c.via = .addressed → exec c s = .next s)

/-- A record received with the station's address acts as the command its text spells, a bad one as a bad record; a record with
address 00 acts as the broadcast command it spells, or is dropped. The one record waiting while the Reply Queue is full is taken
at the moment a reply leaves it (log entry 3); that moment is the later of now and the end of the reply (log entry 2). -/
def Obligations.ReceivedRecordsActAsTheirCommands : Prop :=
  (∀ (s : State) (kept : List (Char × Bool)) (count addr : Nat) (bad : Bool) (body : List Char),
    s.life = .running → s.link.receive = .inside kept count bad → recordAddress kept = some (addr, body) →
    (addr = s.straps.addr.val → addr ≠ 0 →
      exec .recordReceived s =
        exec (if bad then .badRecord else parseAddressed body) { s with link := { s.link with receive := .outside } }) ∧
    (∀ c, addr = 0 → bad = false → parseBroadcast body = some c →
      exec .recordReceived s = exec c { s with link := { s.link with receive := .outside } }) ∧
    ((addr ≠ s.straps.addr.val ∧ addr ≠ 0) ∨ (addr = 0 ∧ (bad = true ∨ parseBroadcast body = none)) →
      exec .recordReceived s = .next { s with link := { s.link with receive := .outside } })) ∧
  ∀ (s : State) (c : Instr) (r : Reply) (q : List Reply) (t0 : Micros), s.life = .running → c.isRecord = true →
    s.hears c.via = true → s.link.stop = none → s.link.inbound = [c] → s.link.replies = r :: q → q.length < 8 →
    s.link.sending = some t0 →
    let t := max s.now (t0 + charsTime s.straps.baud (s.replyLength r))
    exec .replySent s =
      exec c { s with
        now := t
        link := { s.link with inbound := [], replies := q, sending := none, lastChar := max s.link.lastChar t } }

/-- A query that does not clear what it returns changes nothing: whatever its arguments, it adds one reply. -/
def Obligations.QueriesChangeNothing : Prop :=
  ∀ (c : Instr) (s : State), c.isPureQuery = true → s.takesAlone → ∃ r, exec c s = .next (s.reply .addressed r)

/-- With no record queued, only a save, a flush, RESET and the ends of writes change the non-volatile memory: a start in
particular leaves it as it stands. -/
def Obligations.OnlyTheStoreWritesTheImage : Prop :=
  ∀ (c : Instr) (s t : State), s.link.inbound = [] → c.writesImage = false → exec c s = .next t →
    t.store.image = s.store.image

/-! ### Starts -/

/-- The beginning of each start, and the release of the RESET input: loss of supply, return of supply, the RESET input, and the
RESET command once its final flush has ended and its replies have left. The tables and settings are dropped at this beginning, to
be taken from the image at the end of start-up (log entry 20); a start that finds the RESET input asserted is held with its kind
(log entry 31); the RESET command's start does not wait for a flush begun after its final flush had ended (log entry 43). -/
def Obligations.StartsDropAllWork : Prop :=
  ∀ s : State,
    (s.life ≠ .unpowered →
      ∃ t, exec .powerLoss s = .next t ∧ workDropped s t ∧ t.life = .unpowered ∧ t.resetLine = s.resetLine) ∧
    (s.life = .unpowered →
      ∃ t, exec .powerStart s = .next t ∧ workDropped s t ∧ t.resetLine = s.resetLine ∧
        t.life = if s.resetLine then .held .power else .starting .power (s.now + 200000)) ∧
    (s.resetLine = false → s.life ≠ .unpowered →
      ∃ t, exec .lineStart s = .next t ∧ workDropped s t ∧ t.resetLine = true ∧ t.life = .held .line) ∧
    (s.life = .running → s.link.stop = some .ended → s.link.replies = [] →
      ∃ t, exec .commandStart s = .next t ∧ workDropped s t ∧ t.resetLine = s.resetLine ∧
        t.life = if s.resetLine then .held .command else .starting .command (s.now + 200000)) ∧
    ∀ k, s.resetLine = true → s.life = .held k →
      exec .resetRelease s = .next { s with resetLine := false, life := .starting k (s.now + 200000) }

/-- The end of start-up: the straps are taken, the clock starts at 0, the START notice is the one entry, the tables are those of
a good image and nothing else, or the empty ones with the defaults, routes stand IDLE with no outcome, RF and supply states are
judged afresh, and each element takes its start position and state from its bank's straps and its sense reading. What the image
does not define is undefined. The tables are taken at this end (log entry 20), and START_UP_COMPLETE ends start-up whenever it
comes, with the straps it carries (log entry 24); the levels of the inputs are read as they stand at this end (log entry 45). -/
def Obligations.StartUpCompletes : Prop :=
  ∀ (s : State) (k : StartKind) (t0 : Micros) (straps : Straps), s.life = .starting k t0 →
    ∃ t, exec (.startUpComplete straps) s = .next t ∧
      (t.life = .running ∧ t.now = 0 ∧ t.straps = straps ∧ t.pending = s.pending ∧ t.link = s.link ∧ t.engine = s.engine ∧
        t.held = s.held ∧ t.seq = s.seq ∧ t.senseLines = s.senseLines ∧ t.resetLine = s.resetLine ∧
        t.store.image = s.store.image ∧ t.store.st = s.store.st) ∧
      t.notices =
        [⟨.start, 0, vWord (startText k), vWord (if s.store.image.read.isSome then "GOOD" else "BAD")⟩] ∧
      (s.store.image.read = none →
        t.nodes = [] ∧ t.elems = [] ∧ t.routes = [] ∧ t.settings = .defaults ∧ t.store.cond = .bad ∧
          t.store.found = false) ∧
      (∀ d : Fin 8, t.guard.dets[d].reading = s.guard.dets[d].reading ∧
        (t.guard.dets[d].present = true ↔ t.settings.threshold[d] ≤ s.guard.dets[d].reading)) ∧
      (t.supply.reading = s.supply.reading ∧
        t.supply.st = if 216 ≤ s.supply.reading then .normal else if s.supply.reading < 192 then .cut else .low) ∧
      ∀ tb, s.store.image.read = some tb →
        t.nodes = tb.nodes ∧ t.settings = tb.settings ∧ t.store.cond = .good ∧ t.store.found = true ∧
        (∀ p, (tget t.routes p).map (fun r => (r.d, r.st, r.outcome, r.mark)) =
          (tget tb.routes p).map (fun d => (d, RouteState.idle, none, none))) ∧
        (∀ e, tget tb.elems e = none → tget t.elems e = none) ∧
        ∀ e x, tget tb.elems e = some x →
          ∃ y, tget t.elems e = some y ∧ y.d = x.d ∧ y.losses = x.losses ∧ y.wear = x.wear ∧ y.counting = none ∧
            (isFitted straps x.d.bank = false → y.pos = none ∧ y.st = .fault) ∧
            (isFitted straps x.d.bank = true → isSensed straps x.d = true →
              y.sense = some (s.reading x.d) ∧ y.pos = (s.reading x.d).asPos ∧
                y.st = if (s.reading x.d).asPos.isSome then .idle else .unknown) ∧
            (isFitted straps x.d.bank = true → isSensed straps x.d = false → x.d.tech = .eml → y.pos = none ∧ y.st = .unknown) ∧
            (isFitted straps x.d.bank = true → x.d.tech = .emf → isSensed straps x.d = false → y.pos = some 1 ∧ y.st = .idle) ∧
            (isFitted straps x.d.bank = true → x.d.tech = .ss →
              y.pos = some (if x.d.kind = .xfer then 1 else 0) ∧ y.st = .idle)

/-! ### Chapter 1: the switch fabric -/

/-- An accepted NODE: a node that was undefined takes the kind and detector given, guard mode NONE on an INSTR node, and zero
losses on an INNER node; a node whose kind is unchanged keeps everything but its detector. -/
def Obligations.NodeDefines : Prop :=
  ∀ (s : State) (n : Nat) (kw : Kw) (kind : NodeKind), s.takesAlone → inNode n = true → nodeKindOf kw = some kind →
    (tget s.nodes n = none →
      let guard := if kind = .instr then some .open_ else none
      let losses := if kind = .inner then List.replicate s.settings.grid.length 0 else []
      exec (.node [aId .n n, aWord kw]) s =
        .next (({ s with nodes := tset s.nodes n ⟨kind, none, guard, losses⟩ }).reply .addressed (.ok []))) ∧
    (∀ d : Fin 8, kind = .instr → tget s.nodes n = none → (∀ kv ∈ s.nodes, kv.2.det ≠ some d) →
      exec (.node [aId .n n, aWord kw, aId .d d.val]) s =
        .next (({ s with nodes := tset s.nodes n ⟨.instr, some d, some .open_, []⟩ }).reply .addressed (.ok []))) ∧
    ∀ x, tget s.nodes n = some x → x.kind = kind → x.guard ≠ some .sense → x.guard ≠ some .both →
      (∀ kv ∈ s.routes, kv.2.st = .idle ∨ kv.2.nodes.contains n = false) →
      exec (.node [aId .n n, aWord kw]) s =
        .next (({ s with nodes := tset s.nodes n { x with det := none } }).reply .addressed (.ok []))

/-- An accepted ELEM (conditions 4 to 9 of its table do not hold): the definition is written, position and state become UNKNOWN,
the counts are zeroed and the wear-changed mark set. A first definition has no threshold and zero losses; a redefinition keeps
the threshold, and the losses of an unchanged kind. The drive of the slot is kept for an element that keeps bank, slot and
technology, and is removed otherwise. A flush clock starts with the mark when none runs, also when the mark is set already (log
entry 48). -/
def Obligations.ElemDefines : Prop :=
  ∀ (s : State) (e : Nat) (kw tw : Kw) (d : ElemDef), s.takesAlone → inElem e = true → d.legal →
    elemKindOf kw = some d.kind → techOfKw tw = some d.tech → isFitted s.straps d.bank = true →
    (∀ n, some n ∈ d.terms → inNode n = true) → s.elemRefusal e d = none →
    let zeros := List.replicate d.kind.connections (List.replicate s.settings.grid.length 0)
    let sense := if isSensed s.straps d then some (s.reading d) else none
    (tget s.elems e = none →
      exec (.elem (elemArgs e kw tw d)) s =
        .next (({ s.setDrive d .off with
          elems := tset s.elems e ⟨d, zeros, ⟨0, 0, 0, false⟩, none, .unknown, sense, none⟩ }.markWear).reply
            .addressed (.ok []))) ∧
    ∀ x, tget s.elems e = some x →
      let rec' : Element :=
        ⟨d, if x.d.kind = d.kind then x.losses else zeros, ⟨0, 0, x.wear.limit, false⟩, none, .unknown, sense, none⟩
      exec (.elem (elemArgs e kw tw d)) s =
        if x.d.bank = d.bank ∧ x.d.slot = d.slot ∧ x.d.tech = d.tech then
          .next (({ s with elems := tset s.elems e rec' }.markWear).reply .addressed (.ok []))
        else
          .next (({ (s.setDrive x.d .off).setDrive d .off with elems := tset s.elems e rec' }.markWear).reply
            .addressed (.ok []))

/-- POSN with a plan in flight: the plan is placed at the tail of the Plan Queue, with profile P2 when none is given; FORCE marks
the routes of the projection that name the element; without FORCE the first of them refuses the command CLAIMED. -/
def Obligations.PosnPlacesAPlan : Prop :=
  ∀ (s : State) (e p : Nat) (x : Element), s.takesAlone → inElem e = true → tget s.elems e = some x →
    legalPos x.d.kind x.d.tech p = true → isFitted s.straps x.d.bank = true → s.seq = none →
    s.engine.flight.isSome = true → s.engine.waiting.length < 4 →
    (s.projectionNames e = [] →
      exec (.posn [aId .e e, aNum p]) s =
        .next ((s.placePlan ⟨s.engine.nextId, .posn, none, [], [], some ⟨e, p, false⟩, some .p2⟩).reply
          .addressed (.ok []))) ∧
    (∀ r rs, s.projectionNames e = r :: rs →
      exec (.posn [aId .e e, aNum p]) s = .next (s.reply .addressed (.nak .claimed (vRoute r)))) ∧
    ∀ k prof, profileOf k = some prof →
      let ms := (s.projectionNames e).map (fun r => (r, MarkKind.force))
      exec (.posn [aId .e e, aNum p, aWord .force, aId .p k]) s =
        .next (((s.markRoutes s.engine.nextId ms).placePlan
          ⟨s.engine.nextId, .posn, none, [], ms, some ⟨e, p, true⟩, some prof⟩).reply .addressed (.ok []))

/-- NODE? and ELEM? return the record; an undefined number is answered NO_ID, one out of range RANGE. -/
def Obligations.FabricQueriesAnswer : Prop :=
  ∀ (s : State) (n : Nat), s.takesAlone →
    (∀ x, inNode n = true → tget s.nodes n = some x →
      exec (.nodeQuery [aId .n n]) s =
        .next (s.reply .addressed (.ok [vWord (nodeKindText x.kind), vOpt (fun d => vId .d d.val) x.det,
          vOpt (fun g => vWord (guardModeText g)) x.guard, s.vWiring n]))) ∧
    (∀ x, inElem n = true → tget s.elems n = some x →
      exec (.elemQuery [aId .e n]) s =
        .next (s.reply .addressed (.ok ([vWord (elemKindText x.d.kind), vWord (techText x.d.tech), vId .b x.d.bank.val,
          vNum x.d.slot.val] ++ x.d.terms.map (vOpt vNode) ++ [vNum x.d.safe, vPos x.pos, vWord (elemStateText x.st),
          match x.st with
          | .moving t _ => vNum t
          | _ => [],
          s.vClaims n, vOpt vReading x.sense])))) ∧
    (inNode n = true → tget s.nodes n = none → exec (.nodeQuery [aId .n n]) s = .next (s.reply .addressed (.nak .noId []))) ∧
    (inElem n = true → tget s.elems n = none → exec (.elemQuery [aId .e n]) s = .next (s.reply .addressed (.nak .noId []))) ∧
    (inNode n = false → exec (.nodeQuery [aId .n n]) s = .next (s.reply .addressed (.nak .range []))) ∧
    (inElem n = false → exec (.elemQuery [aId .e n]) s = .next (s.reply .addressed (.nak .range [])))

/-! ### Chapter 2: routes and the Held Set -/

/-- The continuity check: a definition that passes visits one node more than it has hops, from its From node to its To node, none
twice and INNER ones between; each hop's element, in its position, joins the terminal wired to the node before it to a terminal
wired to the node after it, by the connection recorded. -/
def Obligations.ContinuityJoinsTheEnds : Prop :=
  ∀ (s : State) (d : RouteDef) (ns : List Nat) (cs : List HopConn), s.continuity d = .ok (ns, cs) → d.hops ≠ [] →
    ns.length = d.hops.length + 1 ∧ ns.head? = some d.src ∧ ns.getLast? = some d.dst ∧ ns.Nodup ∧
      cs.length = d.hops.length ∧
      ∀ (i : Nat) (h : Nat × Nat) (c : HopConn), d.hops[i]? = some h → cs[i]? = some c →
        ∃ (x : Element) (a b u : Nat), ns[i]? = some a ∧ ns[i + 1]? = some b ∧ tget s.elems h.1 = some x ∧
          x.d.terms[c.entry]? = some (some a) ∧ partner x.d.kind h.2 c.entry = some (u, c.conn) ∧
          x.d.terms[u]? = some (some b) ∧ (i + 1 < d.hops.length → s.isInner b = true)

/-- PATH: an accepted definition of an undefined route is written IDLE, with no outcome and no mark, and the node set and hop
connections of its walk; a definition that does not carry on is refused CONTINUITY with the index of the hop. PDEL: RANGE outside
P1..P128, NO_ID for an undefined route, IN_USE for a PENDING or HELD one, IN_USE with the lowest step that names it; otherwise the
route becomes undefined. -/
def Obligations.RoutesAreDefinedAndDeleted : Prop :=
  (∀ (s : State) (p k : Nat) (d : RouteDef), s.takesAlone → profileOf k = some d.profile →
     pathInRange p d.src d.dst d.hops = true → s.pathUndefined d = none → s.pathIllegal d = none →
     (∀ i, s.continuity d = .error i →
       exec (.path (pathArgs p k d)) s = .next (s.reply .addressed (.nak .continuity (vNum i)))) ∧
     ∀ ns cs, s.continuity d = .ok (ns, cs) → tget s.routes p = none → (s.stepRefs p = [] ∨ s.seq = none) →
       s.stepBrokenBy p ⟨d, ns, cs, .idle, none, none⟩ = none →
       exec (.path (pathArgs p k d)) s =
         .next (({ s with routes := tset s.routes p ⟨d, ns, cs, .idle, none, none⟩ }).reply .addressed (.ok []))) ∧
  ∀ (s : State) (p : Nat), s.takesAlone →
    (inRoute p = false → exec (.pdel [aId .p p]) s = .next (s.reply .addressed (.nak .range []))) ∧
    (inRoute p = true → tget s.routes p = none →
      exec (.pdel [aId .p p]) s = .next (s.reply .addressed (.nak .noId []))) ∧
    ∀ r, inRoute p = true → tget s.routes p = some r →
      (r.st ≠ .idle → exec (.pdel [aId .p p]) s = .next (s.reply .addressed (.nak .inUse []))) ∧
      (∀ n ns, r.st = .idle → s.stepRefs p = n :: ns →
        exec (.pdel [aId .p p]) s = .next (s.reply .addressed (.nak .inUse (vStep n)))) ∧
      (r.st = .idle → s.stepRefs p = [] →
        exec (.pdel [aId .p p]) s = .next (({ s with routes := tdel s.routes p }).reply .addressed (.ok [])))

/-- LINK with a plan in flight: the route becomes PENDING and a LINK plan with one op is placed at the tail; PRE marks every
conflicting route of the projection in the same acceptance; without PRE the first of them refuses the command CONFLICT. -/
def Obligations.LinkPlacesAPlan : Prop :=
  ∀ (s : State) (p : Nat) (r : Route), s.takesAlone → inRoute p = true → tget s.routes p = some r → s.seq = none →
    r.st = .idle → (∀ h ∈ r.d.hops, s.inFault h.1 = false) → s.engine.flight.isSome = true →
    s.engine.waiting.length < 4 →
    (s.conflicting p = [] → s.projection.length + 1 ≤ 32 →
      exec (.link [aId .p p]) s =
        .next (((s.modRoute p (fun x => { x with st := .pending })).placePlan
          ⟨s.engine.nextId, .link, none, [⟨.link, p, false⟩], [], none, none⟩).reply .addressed (.ok []))) ∧
    (∀ q qs, s.conflicting p = q :: qs → s.projection.length + 1 ≤ 32 →
      exec (.link [aId .p p]) s = .next (s.reply .addressed (.nak .conflict (vRoute q)))) ∧
    (s.projection.length - (s.conflicting p).length + 1 ≤ 32 →
      let ms := (s.conflicting p).map (fun q => (q, MarkKind.pre p))
      exec (.link [aId .p p, aWord .pre]) s =
        .next ((((s.markRoutes s.engine.nextId ms).modRoute p (fun x => { x with st := .pending })).placePlan
          ⟨s.engine.nextId, .link, none, [⟨.link, p, false⟩], ms, none, none⟩).reply .addressed (.ok [])))

/-- LINK of a route whose elements all stand in place, with no plan queued: no element moves, the route is HELD with outcome OK
at the same moment, and the DONE notice has detail 0. -/
def Obligations.LinkInPlaceIsHeldAtOnce : Prop :=
  ∀ (s : State) (p : Nat) (r : Route), s.takesAlone → inRoute p = true → tget s.routes p = some r → s.seq = none →
    r.st = .idle → s.engine.flight = none → s.engine.waiting = [] → (∀ h ∈ r.d.hops, s.inPlace h.1 h.2 = true) →
    s.conflicting p = [] → s.projection.length + 1 ≤ 32 →
    exec (.link [aId .p p]) s =
      .next (({ s with
        routes := tmod s.routes p (fun x : Route => { x with st := .held, outcome := some .ok })
        held := s.held ++ [p]
        engine := { s.engine with nextId := s.engine.nextId + 1 }
        guard := { s.guard with planHold := false, carry := false }
        notices := queueNotice s.notices ⟨.done, s.noticeTime, vRoute p, vNum 0⟩ }).reply .addressed (.ok []))

/-- UNLINK and UNLINK ALL. With no plan queued, UNLINK takes a HELD route out of the Held Set at once: it is IDLE with outcome
RELEASED. With a plan in flight, a HELD route is marked and an UNLINK plan placed at the tail to release it; the LINK plan of a
PENDING route that still waits is withdrawn with outcome ABORTED. UNLINK ALL with a plan in flight withdraws every waiting link
first, in queue order, then marks the routes that remain with one UNLINK plan at the tail, or places none when none remain; it is
refused QFULL, changing nothing, when the plan it needs finds no room. A withdrawn LINK plan that carries releases keeps its place
without its op; that it carries them by its own list, whether or not their marks still stand, is the model's choice (log entry
40). -/
def Obligations.UnlinkReleases : Prop :=
  ∀ (s : State), s.takesAlone → s.seq = none →
    (∀ p r, s.engine.flight = none → s.engine.waiting = [] → inRoute p = true → tget s.routes p = some r → r.mark = none →
      r.st = .held →
      exec (.unlink [aId .p p]) s =
        .next (({ s with
          routes := tmod s.routes p (fun x : Route => { x with st := .idle, outcome := some .released, mark := none })
          held := s.held.filter (· ≠ p)
          engine := { s.engine with nextId := s.engine.nextId + 1 }
          guard := { s.guard with planHold := false, carry := false } } : State).reply .addressed (.ok []))) ∧
    (s.engine.flight.isSome = true →
      let without (p : Nat) (ps : List Plan) : List Plan := ps.filterMap (fun w =>
        if w.links.any (fun o => o.route = p) then (if w.releases = [] then none else some { w with ops := [] }) else some w)
      let withdraw (u : State) (p : Nat) : State :=
        { u with
          routes := tmod u.routes p (fun x : Route => { x with st := .idle, outcome := some .aborted, mark := none })
          held := u.held.filter (· ≠ p)
          engine := { u.engine with waiting := without p u.engine.waiting } }
      let w := s.unlinkWithdraws.foldl withdraw s
      let ms := s.unlinkMarks.map (fun r => (r, MarkKind.unlink))
      (∀ p r, inRoute p = true → tget s.routes p = some r → r.mark = none → r.st = .held → s.engine.waiting.length < 4 →
        exec (.unlink [aId .p p]) s =
          .next (((s.modRoute p (fun x => { x with mark := some ⟨.unlink, s.engine.nextId⟩ })).placePlan
            ⟨s.engine.nextId, .unlink, none, [], [(p, .unlink)], none, none⟩).reply .addressed (.ok []))) ∧
      (∀ p r, inRoute p = true → tget s.routes p = some r → r.mark = none → r.st = .pending → s.linkWaiting p = true →
        exec (.unlink [aId .p p]) s = .next ((withdraw s p).reply .addressed (.ok []))) ∧
      (s.unlinkMarks = [] → exec .unlinkAll s = .next (w.reply .addressed (.ok []))) ∧
      (s.unlinkMarks ≠ [] → w.engine.waiting.length < 4 →
        exec .unlinkAll s =
          .next (((w.markRoutes s.engine.nextId ms).placePlan
            ⟨s.engine.nextId, .unlink, none, [], ms, none, none⟩).reply .addressed (.ok []))) ∧
      (s.unlinkMarks ≠ [] → 4 ≤ w.engine.waiting.length →
        exec .unlinkAll s = .next (s.reply .addressed (.nak .qfull []))))

/-- PATH? returns the definition, state, outcome, mark and step references; HELD? the Held Set in order with its marks. -/
def Obligations.RouteQueriesAnswer : Prop :=
  ∀ (s : State), s.takesAlone →
    (∀ p r, inRoute p = true → tget s.routes p = some r →
      exec (.pathQuery [aId .p p]) s =
        .next (s.reply .addressed (.ok ([vNode r.d.src, vNode r.d.dst, vProfile r.d.profile] ++
          r.d.hops.flatMap (fun h => [vElem h.1, vNum h.2]) ++
          [vWord (routeStateText r.st), vOpt vOutcome r.outcome, vOpt (fun m => vMark m.kind) r.mark,
            match s.stepRefs p with
            | [] => vNum 0
            | n :: ns => vJoin ':' [vNum (ns.length + 1), vStep n]])))) ∧
    exec (.heldQuery []) s =
      .next (s.reply .addressed (.ok (vNum s.held.length ::
        s.held.map (fun r =>
          match (tget s.routes r).bind (·.mark) with
          | some m => vJoin ':' [vRoute r, vMark m.kind]
          | none => vRoute r))))

/-! ### Chapter 3: the actuation engine -/

/-- SAFE, addressed or broadcast, is never refused: the sequencer returns to IDLE with every output low, no waiting plan and no
held route of before remains, and settings, definitions, the clock and the store's memory stand. -/
def Obligations.SafeClearsAllWork : Prop :=
  ∀ (s : State) (via : Via), s.takes via →
    ∃ t, exec (.safe via) s = .next t ∧ t.kept = (s.reply via (.ok [])).kept ∧ t.seq = none ∧ t.held = [] ∧
      (s.seq ≠ none → t.timers.outs = Vector.replicate 4 .off ∧ t.timers.pace.phase = .stopped ∧ t.timers.dwell = .stopped ∧
        t.timers.latch = .empty) ∧
      (∀ p ∈ t.engine.waiting, p.kind = .safe) ∧
      ∀ f, t.engine.flight = some f → f.plan.kind = .safe ∨ f.phase = .cut

/-- PULSE, SETL and BANK: times are rounded up to 10 µs, clamped, stored and echoed; a wave size is stored as given; nothing else
changes. Their queries return the settings, BANK? with the effective size 1 while the supply is LOW. -/
def Obligations.DriveSettingsAreStored : Prop :=
  ∀ (s : State) (t : Nat), s.takesAlone →
    (let v := max 2000 (min 50000 ((t + 9) / 10 * 10))
     exec (.pulse [aWord .eml, aNum t]) s =
       .next (({ s with settings := { s.settings with pulseEml := v } }).reply .addressed (.ok [vNum v])) ∧
     exec (.pulse [aWord .emf, aNum t]) s =
       .next (({ s with settings := { s.settings with pulseEmf := v } }).reply .addressed (.ok [vNum v]))) ∧
    (∀ kw k tech prof, techOfKw kw = some tech → profileOf k = some prof →
      let v := max 0 (min 200000 ((t + 9) / 10 * 10))
      exec (.setl [aWord kw, aId .p k, aNum t]) s =
        .next (({ s with settings := { s.settings with settle := s.settings.settle.put tech prof v } }).reply
          .addressed (.ok [vNum v]))) ∧
    (∀ b : Fin 8, 1 ≤ t → t ≤ 8 →
      exec (.bank [aId .b b.val, aNum t]) s =
        .next (({ s with settings := { s.settings with waveSize := s.settings.waveSize.set b t } }).reply
          .addressed (.ok []))) ∧
    exec (.pulseQuery []) s =
      .next (s.reply .addressed (.ok [vNum s.settings.pulseEml, vNum s.settings.pulseEmf])) ∧
    exec (.setlQuery []) s =
      .next (s.reply .addressed (.ok ([Tech.eml, .emf, .ss].flatMap (fun k =>
        [Profile.p1, .p2, .p3].map (fun p => vNum (s.settings.settleTime k p)))))) ∧
    ∀ b : Fin 8, exec (.bankQuery [aId .b b.val]) s =
      .next (s.reply .addressed (.ok [vNum s.settings.waveSize[b],
        vNum (if s.supply.st = .low then 1 else s.settings.waveSize[b])]))

/-- PLAN? predicts without changing anything: no time, no element and no wave for a route that stands in place; the pulse width
and the settle time in one wave for a route of one EML element out of place; and FAULTED with the first faulted element. For a
step the override's settle time is taken. Faulted means in FAULT when the command is interpreted (log entry 28). -/
def Obligations.PlanQueryPredicts : Prop :=
  ∀ (s : State) (p : Nat) (r : Route), s.takesAlone → inRoute p = true → tget s.routes p = some r →
    ((∀ h ∈ r.d.hops, s.inPlace h.1 h.2 = true) →
      exec (.planQuery .link [aId .p p]) s = .next (s.reply .addressed (.ok [vNum 0, vNum 0, vNum 0]))) ∧
    (∀ e, s.faultedHop r = some e →
      exec (.planQuery .link [aId .p p]) s = .next (s.reply .addressed (.nak .faulted (vElem e)))) ∧
    ∀ e q x, r.d.hops = [(e, q)] → tget s.elems e = some x → x.st ≠ .fault → s.inPlace e q = false →
      isFitted s.straps x.d.bank = true → x.d.tech = .eml → 1 ≤ s.settings.waveSize[x.d.bank] →
      exec (.planQuery .link [aId .p p]) s =
        .next (s.reply .addressed (.ok [vNum (s.settings.pulseEml + s.settings.settleTime .eml r.d.profile), vNum 1,
          vNum 1])) ∧
      ∀ n st prof, inStep n = true → tget s.settings.steps n = some st → st.ops = [⟨.link, p⟩] → st.ovr = some prof →
        exec (.planQuery .step [aId .s n]) s =
          .next (s.reply .addressed (.ok [vNum (s.settings.pulseEml + s.settings.settleTime .eml prof), vNum 1, vNum 1]))

/-! ### Chapters 4 and 5: guards, supply and wear -/

/-- GUARD, RFTH and MUTE store their settings, and MUTE? and SENSE? return them with the detector's reading and RF state. A
threshold is clamped into -40.0..+30.0 dBm (in half dB here) and the detector is judged again at once. -/
def Obligations.GuardSettingsAreStored : Prop :=
  ∀ s : State, s.takesAlone →
    (∀ n kw mode x, inNode n = true → guardModeOf kw = some mode → tget s.nodes n = some x → x.kind = .instr →
      (mode = .sense ∨ mode = .both → x.det ≠ none) →
      exec (.guard [aId .n n, aWord kw]) s =
        .next (({ s with nodes := tset s.nodes n { x with guard := some mode } }).reply .addressed (.ok []))) ∧
    (∀ n kw mode x, inNode n = true → guardModeOf kw = some mode → tget s.nodes n = some x →
      (x.kind ≠ .instr ∨ ((mode = .sense ∨ mode = .both) ∧ x.det = none)) →
      exec (.guard [aId .n n, aWord kw]) s = .next (s.reply .addressed (.nak .state []))) ∧
    (∀ (d : Fin 8) (a : Arg) (t : Int), asHalves a = some t → s.engine.flight = none →
      let v : Int := max (-80) (min 60 t)
      let x := s.guard.dets[d]
      let present := if x.present then decide (v - 2 ≤ x.reading) else decide (v ≤ x.reading)
      exec (.rfth [aId .d d.val, a]) s =
        .next (({ s with
          settings := { s.settings with threshold := s.settings.threshold.set d v }
          guard := { s.guard with dets := s.guard.dets.set d ⟨x.reading, present⟩ } }).reply
            .addressed (.ok [[.half v]]))) ∧
    (∀ t, let v := max 1000 (min 2000000 ((t + 9) / 10 * 10))
      exec (.mute [aNum t]) s =
        .next (({ s with settings := { s.settings with mute := v } }).reply .addressed (.ok [vNum v]))) ∧
    exec (.muteQuery []) s = .next (s.reply .addressed (.ok [vNum s.settings.mute])) ∧
    ∀ d : Fin 8, exec (.senseQuery [aId .d d.val]) s =
      .next (s.reply .addressed (.ok [[.half s.guard.dets[d].reading],
        vWord (if s.guard.dets[d].present then "PRESENT" else "ABSENT"), [.half s.settings.threshold[d]],
        vOpt vNode (tfind s.nodes (fun _ x => x.det = some d))]))

/-- WEAR LIM stores the threshold and clears the flag, then warns at once when the life count stands at it; WEAR CLR zeroes the
counts and the flag, and keeps the threshold; both set the wear-changed mark, also when every wear field stands as it was, which
is the model's reading (log entry 42), and start a flush clock when none runs, also when the mark is set already (log entry 48).
WEAR? returns the live life count, hot count, threshold and life-warned flag of a defined element, fitted or not. All three are
refused RANGE outside E0..E63 and NO_ID for an undefined element, WEAR LIM also RANGE for a threshold above 99,999,999 and
SYNTAX for a wrong number of arguments or a threshold that is no number, WEAR CLR SYNTAX for a wrong number of arguments.
SUPPLY? returns the supply state, the reading and the time left on the hold clock; with arguments it is refused SYNTAX. -/
def Obligations.WearAndSupplyCommands : Prop :=
  ∀ s : State, s.takesAlone →
    (∀ e,
      (inElem e = false → exec (.wearQuery [aId .e e]) s = .next (s.reply .addressed (.nak .range []))) ∧
      (inElem e = true → tget s.elems e = none →
        exec (.wearQuery [aId .e e]) s = .next (s.reply .addressed (.nak .noId []))) ∧
      ∀ x, inElem e = true → tget s.elems e = some x →
        exec (.wearQuery [aId .e e]) s =
          .next (s.reply .addressed (.ok [vNum x.wear.life, vNum x.wear.hot, vNum x.wear.limit,
            if x.wear.warned then vWord "WARNED" else []]))) ∧
    (∀ e x n, inElem e = true → tget s.elems e = some x → n ≤ 99999999 → (n = 0 ∨ x.wear.life < n) →
      exec (.wearLim [aId .e e, aNum n]) s =
        .next (((s.modElem e (fun y => { y with wear := { y.wear with limit := n, warned := false } })).markWear).reply
          .addressed (.ok []))) ∧
    (∀ e x n, inElem e = true → tget s.elems e = some x → n ≤ 99999999 → 0 < n → n ≤ x.wear.life →
      exec (.wearLim [aId .e e, aNum n]) s =
        .next ((((s.modElem e (fun y => { y with wear := { y.wear with limit := n, warned := true } })).markWear).notify
          .life (vElem e) (vNum x.wear.life)).reply .addressed (.ok []))) ∧
    ((∀ args : List Arg, args.length ≠ 2 → exec (.wearLim args) s = .next (s.reply .addressed (.nak .badForm []))) ∧
      (∀ a b, asNum b = none → exec (.wearLim [a, b]) s = .next (s.reply .addressed (.nak .badForm []))) ∧
      (∀ e n, inElem e = false ∨ 99999999 < n →
        exec (.wearLim [aId .e e, aNum n]) s = .next (s.reply .addressed (.nak .range []))) ∧
      ∀ e n, inElem e = true → n ≤ 99999999 → tget s.elems e = none →
        exec (.wearLim [aId .e e, aNum n]) s = .next (s.reply .addressed (.nak .noId []))) ∧
    (∀ e x, inElem e = true → tget s.elems e = some x →
      exec (.wearClr [aId .e e]) s =
        .next (((s.modElem e (fun y => { y with wear := ⟨0, 0, y.wear.limit, false⟩ })).markWear).reply
          .addressed (.ok []))) ∧
    ((∀ args : List Arg, args.length ≠ 1 → exec (.wearClr args) s = .next (s.reply .addressed (.nak .badForm []))) ∧
      (∀ e, inElem e = false → exec (.wearClr [aId .e e]) s = .next (s.reply .addressed (.nak .range []))) ∧
      ∀ e, inElem e = true → tget s.elems e = none →
        exec (.wearClr [aId .e e]) s = .next (s.reply .addressed (.nak .noId []))) ∧
    (∀ args, args ≠ [] → exec (.supplyQuery args) s = .next (s.reply .addressed (.nak .badForm []))) ∧
    exec (.supplyQuery []) s =
      .next (s.reply .addressed (.ok [vWord (supplyText s.supply.st), vNum s.supply.reading,
        match s.engine.flight.bind (·.holdLimit) with
        | some t => vNum ((t - s.now + 9) / 10 * 10)
        | none => []]))

/-! ### Chapter 6: path loss -/

/-- FREQ, LOSS E and LOSS N: a new grid zeroes every list; a list of one value per grid point is written to its connection or
node. FREQ? and the three forms of LOSS? read them, a route's loss with the number of its terms. -/
def Obligations.LossTablesAreWrittenAndRead : Prop :=
  ∀ s : State, s.takesAlone →
    (∀ fs : List Nat, fs ≠ [] → fs.length ≤ 8 → fs.all inFreq = true → ascending fs = true →
      let z := List.replicate fs.length 0
      exec (.freq (fs.map aNum)) s =
        .next (({ s with
          settings := { s.settings with grid := fs }
          elems := s.elems.map (fun kv : Nat × Element =>
            (kv.1, { kv.2 with losses := List.replicate kv.2.d.kind.connections z }))
          nodes := s.nodes.map (fun kv : Nat × Machine.Node =>
            (kv.1, { kv.2 with losses := if kv.2.kind = NodeKind.inner then z else [] })) }).reply
            .addressed (.ok [vNum fs.length]))) ∧
    (∀ e c x (vs : List Nat), inElem e = true → tget s.elems e = some x → 1 ≤ c → c ≤ x.d.kind.connections →
      vs.length = s.settings.grid.length → vs ≠ [] → (∀ v ∈ vs, v ≤ 3000) →
      exec (.lossE (aId .e e :: aNum c :: vs.map aNum)) s =
        .next ((s.modElem e (fun y => { y with losses := y.losses.set (c - 1) vs })).reply .addressed (.ok []))) ∧
    (∀ n x (vs : List Nat), inNode n = true → tget s.nodes n = some x → x.kind = .inner →
      vs.length = s.settings.grid.length → vs ≠ [] → (∀ v ∈ vs, v ≤ 3000) →
      exec (.lossN (aId .n n :: vs.map aNum)) s =
        .next (({ s with nodes := tset s.nodes n { x with losses := vs } }).reply .addressed (.ok []))) ∧
    exec (.freqQuery []) s =
      .next (s.reply .addressed (.ok (vNum s.settings.grid.length :: s.settings.grid.map vNum))) ∧
    (∀ e c x, inElem e = true → tget s.elems e = some x → 1 ≤ c → c ≤ x.d.kind.connections →
      exec (.lossQuery (some .e) [aId .e e, aNum c]) s =
        .next (s.reply .addressed (.ok ((x.losses.getD (c - 1) []).map vNum)))) ∧
    (∀ n x, inNode n = true → tget s.nodes n = some x → x.kind = .inner →
      exec (.lossQuery (some .n) [aId .n n]) s = .next (s.reply .addressed (.ok (x.losses.map vNum)))) ∧
    ∀ p f r, inRoute p = true → inFreq f = true → tget s.routes p = some r →
      exec (.lossQuery none [aId .p p, aNum f]) s =
        .next (s.reply .addressed (.ok [vNum (s.lossTerms r f).sum, vNum (2 * r.d.hops.length - 1)]))

/-- Interpolation over an ascending grid: the end values outside it, the value of a point at the point, and between two points a
whole number nearest to the straight line (halves up), never outside the two values. -/
def Obligations.LossInterpolatesTheGrid : Prop :=
  ∀ (grid : List Nat) (vs : List Cdb) (f : Nat), ascending grid = true → vs.length = grid.length →
    (∀ g v, grid.head? = some g → vs.head? = some v → f ≤ g → lossAt grid vs f = v) ∧
    (∀ g v, grid.getLast? = some g → vs.getLast? = some v → g ≤ f → lossAt grid vs f = v) ∧
    (∀ (i : Nat) (v : Cdb), grid[i]? = some f → vs[i]? = some v → lossAt grid vs f = v) ∧
    ∀ (i g g' : Nat) (v v' : Cdb), grid[i]? = some g → grid[i + 1]? = some g' → vs[i]? = some v → vs[i + 1]? = some v' →
      g < f → f < g' →
      let x : Int := (lossAt grid vs f : Int)
      let line : Int := (v : Int) * (g' - g) + ((v' : Int) - v) * (f - g)
      min v v' ≤ lossAt grid vs f ∧ lossAt grid vs f ≤ max v v' ∧
        ((g' : Int) - g) * (2 * x - 1) ≤ 2 * line ∧ 2 * line < ((g' : Int) - g) * (2 * x + 1)

/-! ### Chapter 7: steps, lists and the sequencer -/

/-- An accepted STEP and LIST: every field in its form and range, the sequencer IDLE, the routes defined and the ops passing the
pairwise test; dwells and windows are rounded up to 10 µs, clamped, stored and echoed. -/
def Obligations.StepsAndListsAreDefined : Prop :=
  ∀ s : State, s.takesAlone → s.seq = none →
    (∀ (n dA dB : Nat) (srcA selA ovrA actA repA : Arg) (opsA : List Arg) (w : Kw) (src : Source) (sel : DwellSel)
        (ovr : Option Profile) (act : Option OutAction) (rep : Bool) (ops : List StepOp),
      inStep n = true → asSource srcA = some (some src) → asWord selA = some w → dwellSelOf w = some sel →
      asOverride ovrA = some (some ovr) → asAction actA = some (some act) → asReport repA = some rep →
      asAll asOp opsA = some (ops.map some) → ops ≠ [] → ops.length ≤ 4 →
      (∀ o ∈ ops, (tget s.routes o.route).isSome = true) → opsTest s.conflicts ops = none →
      let a := min 10000000 ((dA + 9) / 10 * 10)
      let b := min 10000000 ((dB + 9) / 10 * 10)
      exec (.step (aId .s n :: srcA :: selA :: aNum dA :: aNum dB :: ovrA :: actA :: repA :: opsA)) s =
        .next (({ s with settings := { s.settings with
          steps := tset s.settings.steps n ⟨ops, src, a, b, sel, ovr, act, rep⟩ } }).reply
            .addressed (.ok [vNum a, vNum b]))) ∧
    ∀ (l first last passes pattern we wl : Nat) (tp lp : Kw) (latch force : Bool) (freqA : List Arg) (freq : Option Nat),
      inList l = true → first ≤ last → last < 256 → passes ≤ 65535 → pattern ≤ 65535 →
      (tp = if latch then .latch else .drop) → (lp = if force then .force else .halt) →
      (freqA = match freq with
        | some f => [aNum f]
        | none => []) → (∀ f, freq = some f → inFreq f = true) →
      let e := min 10000000 ((we + 9) / 10 * 10)
      let w := min 10000000 ((wl + 9) / 10 * 10)
      (w = 0 ∨ e < w) →
      exec (.list (aId .l l :: aId .s first :: aId .s last :: aNum passes :: aNum pattern :: aWord tp :: aWord lp ::
          aNum we :: aNum wl :: freqA)) s =
        .next (({ s with settings := { s.settings with
          lists := tset s.settings.lists l ⟨first, last, passes, pattern, latch, force, e, w, freq⟩ } }).reply
            .addressed (.ok [vNum e, vNum w]))

/-- LDEL and SDEL: RANGE outside L0..L7 (S0..S255), NO_ID for an undefined list (step), SEQ_ACTIVE while the sequencer is not
IDLE; otherwise the list (step) becomes undefined and nothing else changes, the steps of the list's range included; an ARM of a
list whose range holds an undefined step is then refused NO_ID with the lowest such step. STEP? and LIST? return the definition
in the order and form it is given, dwells and windows as stored and an absent report frequency as a hyphen, in every sequencer
state and changing nothing; RANGE and NO_ID as before. -/
def Obligations.ListsAndStepsAreReadAndDeleted : Prop :=
  ∀ (s : State) (n : Nat), s.takesAlone →
    ((inStep n = false → exec (.stepQuery [aId .s n]) s = .next (s.reply .addressed (.nak .range []))) ∧
     (inStep n = true → tget s.settings.steps n = none →
       exec (.stepQuery [aId .s n]) s = .next (s.reply .addressed (.nak .noId []))) ∧
     (∀ st, inStep n = true → tget s.settings.steps n = some st →
       exec (.stepQuery [aId .s n]) s =
         .next (s.reply .addressed (.ok ([vSource st.src, vWord (dwellSelText st.sel), vNum st.dwellA, vNum st.dwellB,
           vOverride st.ovr, vOpt vAction st.act, if st.rep then vWord "REP" else []] ++
           st.ops.map (fun o => vJoin ':' [vWord (opKindText o.kind), vRoute o.route]))))) ∧
     (inList n = false → exec (.listQuery [aId .l n]) s = .next (s.reply .addressed (.nak .range []))) ∧
     (inList n = true → tget s.settings.lists n = none →
       exec (.listQuery [aId .l n]) s = .next (s.reply .addressed (.nak .noId []))) ∧
     ∀ r, inList n = true → tget s.settings.lists n = some r →
       exec (.listQuery [aId .l n]) s =
         .next (s.reply .addressed (.ok [vStep r.first, vStep r.last, vNum r.passes, vNum r.pattern,
           vWord (if r.latch then "LATCH" else "DROP"), vWord (if r.lateForce then "FORCE" else "HALT"), vNum r.early,
           vNum r.late, match r.freq with
             | some f => vNum f
             | none => []]))) ∧
    ((inList n = false → exec (.ldel [aId .l n]) s = .next (s.reply .addressed (.nak .range []))) ∧
     (inList n = true → tget s.settings.lists n = none →
       exec (.ldel [aId .l n]) s = .next (s.reply .addressed (.nak .noId []))) ∧
     (∀ r, inList n = true → tget s.settings.lists n = some r → s.seq ≠ none →
       exec (.ldel [aId .l n]) s = .next (s.reply .addressed (.nak .seqActive []))) ∧
     (∀ r, inList n = true → tget s.settings.lists n = some r → s.seq = none →
       exec (.ldel [aId .l n]) s =
         .next (({ s with settings := { s.settings with lists := tdel s.settings.lists n } }).reply .addressed (.ok [])))) ∧
    (inStep n = false → exec (.sdel [aId .s n]) s = .next (s.reply .addressed (.nak .range []))) ∧
    (inStep n = true → tget s.settings.steps n = none →
      exec (.sdel [aId .s n]) s = .next (s.reply .addressed (.nak .noId []))) ∧
    (∀ st, inStep n = true → tget s.settings.steps n = some st → s.seq ≠ none →
      exec (.sdel [aId .s n]) s = .next (s.reply .addressed (.nak .seqActive []))) ∧
    (∀ st, inStep n = true → tget s.settings.steps n = some st → s.seq = none →
      exec (.sdel [aId .s n]) s =
        .next (({ s with settings := { s.settings with steps := tdel s.settings.steps n } }).reply .addressed (.ok []))) ∧
    ∀ l r, inStep n = true → tget s.settings.steps n = none → inList l = true → tget s.settings.lists l = some r →
      r.first ≤ n → n ≤ r.last → s.seq = none → s.engine.flight = none → s.engine.waiting = [] →
      ∃ k, r.first ≤ k ∧ k ≤ n ∧ tget s.settings.steps k = none ∧
        (∀ j, r.first ≤ j → j < k → (tget s.settings.steps j).isSome = true) ∧
        exec (.arm [aId .l l]) s = .next (s.reply .addressed (.nak .noId (vStep k)))

/-- ARM of a list whose steps are all defined, with no plan queued and nothing armed: the latches empty, the pace timer starts,
and the first step becomes current. A step with another source than AUTO enters WAITING with its window timer started; an AUTO
step enters SWITCHING and its plan is submitted at the same moment, as is the plan of every step that enters SWITCHING.

That submission is the next thing to happen (`State.instant`). A LINK op that conflicts with the projection fails it CONFLICT
with the first such route, and one that finds no room fails it FULL: FAIL and HALT notices, resume point RETRY, nothing else
changed. Otherwise the STEP plan carries all ops and is placed in the queue: a LINK op of a route not held becomes PENDING; one
of a route held is satisfied, and its route stands; an UNLINK op of a held route marks it, and a LINKP op marks PRE every other
route of the projection in conflict with its route, the releases being carried in op order though UNLINK marks are found first.
-/
def Obligations.ArmStartsTheList : Prop :=
  (∀ (s : State) (l : Nat) (r : ListRec) (st : StepRec), s.takesAlone → inList l = true →
    tget s.settings.lists l = some r → s.seq = none → s.engine.waiting = [] → s.engine.flight = none →
    s.missingStep r = none → tget s.settings.steps r.first = some st → (r.passes ≠ 0 ∨ s.allAuto r = false) →
    (st.src ≠ .auto →
      exec (.arm [aId .l l]) s =
        .next (({ s with
          seq := some ⟨l, r.first, 0, .waiting, none, none⟩
          timers := { s.timers with
            latch := .empty, window := .running s.now
            pace := startPace s.now (s.gateHigh s.settings.pace) s.settings.pace } }).reply .addressed (.ok []))) ∧
    (st.src = .auto →
      exec (.arm [aId .l l]) s =
        .next (({ s with
          seq := some ⟨l, r.first, 0, .switching false none, none, none⟩
          timers := { s.timers with
            latch := .empty
            pace := startPace s.now (s.gateHigh s.settings.pace) s.settings.pace } }).reply .addressed (.ok [])).settled)) ∧
  ∀ (u : State) (run : Run) (due : Option Due) (st : StepRec) (p : Nat), u.seq = some { run with mode := .switching false due } →
    tget u.settings.steps run.step = some st → u.engine.flight = none → u.engine.waiting = [] →
    let fails (detail : Val) : State :=
      { u with
        seq := some { run with mode := .halted .retry, trigger := none }
        timers := { u.timers with outs := u.timers.outs.map (freezeOut u.now) }
        notices := queueNotice (queueNotice u.notices ⟨.fail, u.noticeTime, vRoute p, detail⟩)
          ⟨.halt, u.noticeTime, vStep run.step, vWord "FAIL"⟩ }
    let placed (w : State) (satisfied : Bool) (rel : List (Nat × MarkKind)) : State :=
      { w with
        seq := some { run with mode := .switching true due }
        engine := { u.engine with
          nextId := u.engine.nextId + 1
          waiting := [⟨u.engine.nextId, .step, some run.step,
            st.ops.map (fun o => ⟨o.kind, o.route, o.kind ≠ .unlink && satisfied⟩), rel, none, st.ovr⟩] } }
    (st.ops = [⟨.link, p⟩] → u.routeState p ≠ some .held →
      (∀ q qs, (u.conflicting p).filter (· ≠ p) = q :: qs →
        u.instant = some (fails (vJoin ':' [vWord "CONFLICT", vRoute q]))) ∧
      ((u.conflicting p).filter (· ≠ p) = [] → 32 ≤ u.projection.length → u.instant = some (fails (vWord "FULL"))) ∧
      ((u.conflicting p).filter (· ≠ p) = [] → u.projection.length < 32 →
        u.instant = some (placed (u.modRoute p (fun x => { x with st := .pending })) false []))) ∧
    (st.ops = [⟨.link, p⟩] → u.routeState p = some .held → u.instant = some (placed u true [])) ∧
    ∀ q, st.ops = [⟨.linkp, p⟩, ⟨.unlink, q⟩] → p ≠ q → u.routeState p = some .idle → u.routeState q = some .held →
      u.projection.length < 32 →
      let rel := ((u.conflicting p).filter (fun r => r ≠ p && r ≠ q)).map (fun r => (r, MarkKind.pre p)) ++ [(q, .unlink)]
      u.instant = some (placed ((rel.foldl (fun w rk =>
        w.modRoute rk.1 (fun x => { x with mark := some ⟨rk.2, u.engine.nextId⟩ })) u).modRoute p
          (fun x => { x with st := .pending })) false rel)

/-- GO is an advance event of source SOFT: refused STATE in IDLE and disregarded there when broadcast; in WAITING of a SOFT step
it is tested against the early limit; in DWELL under policy LATCH it becomes the pending trigger, or is lost with a TRIGLOST
notice when one is pending; in HALTED it is disregarded. The pending trigger's arrival time is the notice clock's, in whole ms:
the model's choice (log entry 38). -/
def Obligations.GoIsAnAdvanceEvent : Prop :=
  ∀ s : State, s.takesAlone →
    (s.seq = none → exec (.go .addressed) s = .next (s.reply .addressed (.nak .state []))) ∧
    (s.seq = none → exec (.go .broadcast) s = .next s) ∧
    ∀ (r : Run) (l : ListRec), s.seq = some r → tget s.settings.lists r.list = some l → s.sourceNamed l .soft = true →
      (r.mode = .waiting → (s.runStep r).src = .soft → l.early ≤ s.windowElapsed →
        exec (.go .addressed) s =
          .next (({ s with
            seq := some { r with mode := .switching false none }
            timers := { s.timers with window := .stopped s.windowElapsed } }).reply .addressed (.ok [])).settled) ∧
      (r.mode = .waiting → (s.runStep r).src = .soft → s.windowElapsed < l.early →
        exec (.go .addressed) s =
          .next ((s.notify .early (vStep r.step) (vNum s.windowElapsed)).reply .addressed (.ok []))) ∧
      (r.mode = .dwell → l.latch = true → r.trigger = none →
        exec (.go .addressed) s =
          .next (({ s with seq := some { r with trigger := some (.soft, s.noticeTime) } }).reply .addressed (.ok []))) ∧
      (∀ src t, r.mode = .dwell → l.latch = true → r.trigger = some (src, t) →
        exec (.go .addressed) s =
          .next ((s.notify .triglost (vSource .soft) (vSource src)).reply .addressed (.ok []))) ∧
      ∀ p, r.mode = .halted p → exec (.go .addressed) s = .next (s.reply .addressed (.ok [])) ∧ exec (.go .broadcast) s = .next s

/-- HALT by state: in WAITING the window timer stops and the sequencer halts with resume point WAIT; in DWELL the dwell timer
freezes, resume point DWELL-REMAINING; in SWITCHING HALT becomes due; in IDLE, HALTED and when something is due it is refused
STATE. Entering HALTED freezes the output pulses, empties the pending trigger and queues a HALT notice. -/
def Obligations.HaltActsByState : Prop :=
  ∀ s : State, s.takesAlone →
    (s.seq = none → exec (.halt .addressed []) s = .next (s.reply .addressed (.nak .state [])) ∧
      exec (.halt .broadcast []) s = .next s) ∧
    ∀ r : Run, s.seq = some r →
      (r.mode = .waiting →
        exec (.halt .addressed []) s =
          .next (({ s with
            seq := some { r with mode := .halted .wait, trigger := none }
            timers := { s.timers with
              window := .stopped s.windowElapsed
              outs := s.timers.outs.map (freezeOut s.now) }
            notices := queueNotice s.notices ⟨.halt, s.noticeTime, vStep r.step, vWord "HALT"⟩ }).reply
              .addressed (.ok []))) ∧
      (r.mode = .dwell →
        exec (.halt .addressed []) s =
          .next (({ s with
            seq := some { r with mode := .halted .dwellRemaining, trigger := none }
            timers := { s.timers with
              dwell := .frozen s.dwellRemaining
              outs := s.timers.outs.map (freezeOut s.now) }
            notices := queueNotice s.notices ⟨.halt, s.noticeTime, vStep r.step, vWord "HALT"⟩ }).reply
              .addressed (.ok []))) ∧
      (∀ b, r.mode = .switching b none →
        exec (.halt .addressed []) s =
          .next (({ s with seq := some { r with mode := .switching b (some .halt) } }).reply .addressed (.ok []))) ∧
      ∀ b d p, (r.mode = .switching b (some d) ∨ r.mode = .halted p) →
        exec (.halt .addressed []) s = .next (s.reply .addressed (.nak .state []))

/-- RESUME and ABORT: RESUME at WAIT enters WAITING with a fresh window, at DWELL-REMAINING it runs the dwell remaining, at
RETRY it submits the step's plan again, and frozen output pulses run on; ABORT ends the run at once with a HALT notice, or
becomes due in SWITCHING. -/
def Obligations.ResumeAndAbort : Prop :=
  ∀ (s : State), s.takesAlone →
    (s.seq = none → exec (.resume []) s = .next (s.reply .addressed (.nak .state [])) ∧
      exec (.abort []) s = .next (s.reply .addressed (.nak .state []))) ∧
    ∀ r : Run, s.seq = some r →
      (r.mode = .halted .wait → r.trigger = none →
        exec (.resume []) s =
          .next (({ s with
            seq := some { r with mode := .waiting, trigger := none }
            timers := { s.timers with window := .running s.now, outs := s.timers.outs.map (thawOut s.now) } }).reply
              .addressed (.ok []))) ∧
      (r.mode = .halted .dwellRemaining → s.dwellRemaining ≠ 0 →
        exec (.resume []) s =
          .next (({ s with
            seq := some { r with mode := .dwell }
            timers := { s.timers with
              dwell := .running (s.now + s.dwellRemaining)
              outs := s.timers.outs.map (thawOut s.now) } }).reply .addressed (.ok []))) ∧
      (r.mode = .halted .retry →
        exec (.resume []) s =
          .next (({ s with
            seq := some { r with mode := .switching false none }
            timers := { s.timers with outs := s.timers.outs.map (thawOut s.now) } }).reply .addressed (.ok [])).settled) ∧
      (r.mode = .waiting ∨ r.mode = .dwell ∨ (∃ p, r.mode = .halted p) →
        exec (.abort []) s =
          .next (({ s with
            seq := none
            timers := { s.timers with
              outs := Vector.replicate 4 .off, pace := ⟨.stopped, s.timers.pace.loaded, false⟩, window := .stopped 0
              dwell := .stopped, latch := .empty }
            notices := queueNotice s.notices ⟨.halt, s.noticeTime, vStep r.step, vWord "ABORT"⟩ }).reply
              .addressed (.ok []))) ∧
      (∀ b, r.mode = .switching b none ∨ r.mode = .switching b (some .halt) →
        exec (.abort []) s =
          .next (({ s with seq := some { r with mode := .switching b (some .abort) } }).reply .addressed (.ok []))) ∧
      ∀ b, r.mode = .switching b (some .abort) → exec (.abort []) s = .next (s.reply .addressed (.nak .state []))

/-! ### Chapter 8: timers and trigger lines -/

/-- TRIN stores an input's edge and filter and takes its raw level as filtered level with no edge; TROUT stores an output's width,
rounded up and clamped; their queries return settings, levels and drives. -/
def Obligations.TriggerSettingsAreStored : Prop :=
  ∀ s : State, s.takesAlone →
    (∀ (i : Fin 4) (ew fw : Kw) (rise : Bool) (f : Filter), edgeOf ew = some rise → filterOf fw = some f → s.seq = none →
      let x := s.timers.ins[i]
      exec (.trin [aId .ti i.val, aWord ew, aWord fw]) s =
        .next (({ s with
          settings := { s.settings with inputs := s.settings.inputs.set i ⟨rise, f⟩ }
          timers := { s.timers with ins := s.timers.ins.set i ⟨x.raw, x.raw, none⟩ } }).reply .addressed (.ok []))) ∧
    (∀ (i : Fin 4) (ew fw : Kw) (rise : Bool) (f : Filter), edgeOf ew = some rise → filterOf fw = some f → s.seq ≠ none →
      exec (.trin [aId .ti i.val, aWord ew, aWord fw]) s = .next (s.reply .addressed (.nak .seqActive []))) ∧
    (∀ i : Fin 4, exec (.trinQuery [aId .ti i.val]) s =
      .next (s.reply .addressed (.ok [vWord (if s.settings.inputs[i].rise then "RISE" else "FALL"),
        vWord (filterText s.settings.inputs[i].filter), vWord (if s.timers.ins[i].level then "HIGH" else "LOW")]))) ∧
    (∀ (o : Fin 4) (w : Nat), let v := min 655350 ((w + 9) / 10 * 10)
      exec (.trout [aId .to o.val, aNum w]) s =
        .next (({ s with settings := { s.settings with widths := s.settings.widths.set o v } }).reply
          .addressed (.ok [vNum v]))) ∧
    ∀ o : Fin 4, exec (.troutQuery [aId .to o.val]) s =
      .next (s.reply .addressed (.ok [vNum s.settings.widths[o],
        vWord (if s.timers.outs[o] = .off then "LOW" else "HIGH"),
        match s.timers.outs[o] with
        | .off => vWord "NONE"
        | .level _ => vWord "LEVEL"
        | .pulse t => vJoin ':' [vWord "PULSE", vNum ((t - s.now + 9) / 10 * 10)]
        | .frozen r => vJoin ':' [vWord "PULSE", vNum r]]))

/-- PACE stores the setting; with the sequencer not IDLE, the same mode and gate mark the count as pending, and another mode or
gate restarts the timer with the new setting. PACE? returns the setting and the running record. -/
def Obligations.PaceIsStoredAndRestarted : Prop :=
  ∀ (s : State) (args : List Arg) (m : Option PaceMode) (c : Nat) (g : Option Nat) (p : PaceSetting), s.takesAlone →
    parsePace args = some (m, c, g) → paceInRange m c g = some p →
    (s.seq = none →
      exec (.pace args) s = .next (({ s with settings := { s.settings with pace := p } }).reply .addressed (.ok []))) ∧
    (s.seq ≠ none → s.settings.pace.mode = p.mode → s.settings.pace.gate = p.gate →
      exec (.pace args) s =
        .next (({ s with
          settings := { s.settings with pace := p }
          timers := { s.timers with pace := { s.timers.pace with pend := true } } }).reply .addressed (.ok []))) ∧
    (s.seq ≠ none → (s.settings.pace.mode ≠ p.mode ∨ s.settings.pace.gate ≠ p.gate) →
      let high := match p.gate with
        | some i => s.timers.ins[i].level
        | none => false
      let phase := match p.mode with
        | .rate => PacePhase.counting (s.now + 10 * paceTicks p.count)
        | .gated => if high then .counting (s.now + 10 * paceTicks p.count) else .held (paceTicks p.count)
        | .retrig => .ready
      exec (.pace args) s =
        .next (({ s with
          settings := { s.settings with pace := p }
          timers := { s.timers with pace := ⟨phase, p.count, false⟩ } }).reply .addressed (.ok []))) ∧
    exec (.paceQuery []) s =
      .next (s.reply .addressed (.ok [vWord (paceModeText s.settings.pace.mode), vNum s.settings.pace.count,
        vOpt (fun i => vId .ti i.val) s.settings.pace.gate, vWord (pacePhaseText s.timers.pace.phase),
        vNum s.timers.pace.loaded,
        vNum (match s.timers.pace.phase with
          | .counting t => (t - s.now + 9) / 10
          | .held r => r
          | _ => 0),
        if s.timers.pace.pend then vWord "PEND" else []]))

/-- SNAP fills the empty latches among its targets at one moment and keeps the full ones; SNAP? returns latched values where there
are any and live values elsewhere, and empties every latch. -/
def Obligations.SnapLatchesAndReads : Prop :=
  ∀ s : State, s.takesAlone →
    let seq : SeqSnap := ⟨s.seqState, s.seq.map (·.step), s.seq.map (·.pass)⟩
    let l := s.timers.latch
    (∀ ws : List Kw, ws ≠ [] → ws.all isTarget = true →
      exec (.snap (ws.map aWord)) s =
        .next (({ s with timers := { s.timers with latch := {
          seq := if Kw.seq ∈ ws then l.seq.or (some seq) else l.seq
          pace := if Kw.pace ∈ ws then l.pace.or (some (s.timers.pace.pend, s.paceRemaining)) else l.pace
          wind := if Kw.wind ∈ ws then l.wind.or (some s.windowElapsed) else l.wind
          dwell := if Kw.dwell ∈ ws then l.dwell.or (some s.dwellRemaining) else l.dwell } } }).reply
            .addressed (.ok []))) ∧
    let q := l.seq.getD seq
    let p := l.pace.getD (s.timers.pace.pend, s.paceRemaining)
    exec (.snapQuery []) s =
      .next (({ s with timers := { s.timers with latch := .empty } }).reply .addressed
        (.ok [l.vTargets, vWord (seqStateText q.st), vOpt vStep q.step, if p.1 then vWord "PEND" else [], vOpt vNum q.pass,
          vNum p.2, vNum (l.wind.getD s.windowElapsed), vNum (l.dwell.getD s.dwellRemaining)]))

/-! ### Chapter 10: notices and status -/

/-- How the Notice Queue takes a notice: appended while it holds at most 14 entries; replaced by an OVERFLOW entry of detail 1 as
the sixteenth; and discarded behind an OVERFLOW entry, whose detail rises by 1 up to 65,535. -/
def Obligations.NoticeQueueTakesNotices : Prop :=
  ∀ (q : List Notice) (n : Notice), noticesLegal q → n.kind ≠ .overflow →
    noticesLegal (queueNotice q n) ∧
    (q.length ≤ 14 → (∀ m ∈ q, m.kind ≠ .overflow) → queueNotice q n = q ++ [n]) ∧
    (q.length = 15 → (∀ m ∈ q, m.kind ≠ .overflow) →
      queueNotice q n = q ++ [⟨.overflow, n.time, vWord (noticeText n.kind), vNum 1⟩]) ∧
    ∀ (q' : List Notice) (t k : Nat) (subject : Val), q = q' ++ [⟨.overflow, t, subject, vNum k⟩] →
      queueNotice q n = q' ++ [⟨.overflow, t, subject, vNum (min 65535 (k + 1))⟩]

/-- NOTE? removes and returns the oldest notice, or answers that there is none; ATTN stores and echoes the enable; STAT? returns
ten fields and clears the overrun flag and count; IDENT? returns the straps read at the last start; SEQ? returns the sequencer
record, in IDLE six hyphens after the state. -/
def Obligations.NoticeAndStatusCommands : Prop :=
  ∀ s : State, s.takesAlone →
    (∀ n q, s.notices = n :: q → exec (.noteQuery []) s = .next (({ s with notices := q }).reply .addressed (.note n))) ∧
    (s.notices = [] → exec (.noteQuery []) s = .next (s.reply .addressed .noNote)) ∧
    (∀ on, exec (.attn [aWord (if on then .on else .off)]) s =
      .next (({ s with settings := { s.settings with attn := on } }).reply
        .addressed (.ok [vWord (if on then "ON" else "OFF")]))) ∧
    exec (.statQuery []) s =
      .next (({ s with link := { s.link with overrun := false, overruns := 0 } }).reply .addressed
        (.ok [vWord (seqStateText s.seqState), vNum s.engine.waiting.length,
          match s.engine.flight with
          | some f => vJoin ':' [vWord (planKindText f.plan.kind), vWord (phaseText f.phase)]
          | none => [],
          vNum s.held.length, vWord (supplyText s.supply.st), vWord (storeText s.store.st),
          vWord (if s.guard.inhibit then "ON" else "OFF"), vWord (if s.guard.quiet then "HIGH" else "LOW"),
          vNum s.notices.length, if s.link.overrun then vJoin ':' [vWord "OVR", vNum s.link.overruns] else []])) ∧
    exec (.identQuery []) s =
      .next (s.reply .addressed (.ok [vWord "PAZOREL IROUMA CPC-64", vHardware, vFirmware, vNum s.straps.addr.val,
        vBanks s.straps.fitted, vBanks s.straps.sensed, vNum (baudRate s.straps.baud)])) ∧
    (s.seq = none → exec (.seqQuery []) s = .next (s.reply .addressed (.ok [vWord "IDLE", [], [], [], [], [], []]))) ∧
    ∀ r : Run, s.seq = some r →
      exec (.seqQuery []) s =
        .next (s.reply .addressed (.ok [
          vWord (match r.mode with
            | .waiting => "WAITING"
            | .switching _ _ => "SWITCHING"
            | .dwell => "DWELL"
            | .halted _ => "HALTED"),
          vId .l r.list, vStep r.step, vNum r.pass,
          match r.mode with
            | .halted p => vWord (resumeText p)
            | _ => [],
          match r.mode with
            | .switching _ (some .halt) => vWord "HALT"
            | .switching _ (some .abort) => vWord "ABORT"
            | _ => [],
          match r.trigger with
            | some (src, t) => vJoin ':' [vSource src, vNum t]
            | none => []]))

/-! ### Chapter 11: the image store -/

/-- SAVE takes the save copy, invalidates the table section and begins the write, or is refused BUSY; the save number is one
above the last given out (log entry 13), and the count of writes is the model's own (log entry 11). RESET sets the interpreter
stop and asks for the final flush: none when nothing is to be flushed, one at once when the mark is set and the image good, and
one later while the store is busy. A flush copies every element's wear fields with the save number of the table section into the
slot without the newest valid copy, numbered one above that copy (the first ever: slot A, number 1, log entry 14); its slot is
invalid from that moment, and the wear-changed mark and the flush clock are cleared. STORE? with any argument is refused SYNTAX;
otherwise it returns the store state, the validity found at the last start, the image condition and the time to the flush
clock's expiry in whole ticks, 0 while a flush is due; in every state, changing nothing. -/
def Obligations.StoreCommandsAnswer : Prop :=
  ∀ s : State, s.takesAlone →
    let target : Bool × Nat := match s.store.image.slotA, s.store.image.slotB with
      | some a, some b => if a.flushNo < b.flushNo then (false, b.flushNo + 1) else (true, a.flushNo + 1)
      | some a, none => (true, a.flushNo + 1)
      | none, some b => (false, b.flushNo + 1)
      | none, none => (false, 1)
    let saveNo := match s.store.image.table with
      | some sec => sec.saveNo
      | none => s.store.image.saveNo
    let copy : WearSlot := ⟨s.elems.map (fun kv => (kv.1, kv.2.wear)), saveNo, target.2⟩
    let image : Image := { s.store.image with
      slotA := if target.1 then s.store.image.slotA else none
      slotB := if target.1 then none else s.store.image.slotB
      writes := s.store.image.writes + 1 }
    (∀ args, args ≠ [] → exec (.storeQuery args) s = .next (s.reply .addressed (.nak .badForm []))) ∧
    exec (.storeQuery []) s =
      .next (s.reply .addressed (.ok [
        vWord (match s.store.st with
          | .idle => "IDLE"
          | .saving _ _ => "SAVING"
          | .flushing _ _ _ => "FLUSHING"),
        vWord (if s.store.found then "GOOD" else "BAD"),
        vWord (match s.store.cond with
          | .good => "GOOD"
          | .bad => "BAD"
          | .writing => "WRITING"),
        match s.store.clock with
          | .absent => []
          | .running t => vNum ((t - s.now + 9) / 10 * 10)
          | .due => vNum 0])) ∧
    (s.store.st = .idle →
      exec (.save []) s =
        .next (({ s with store := { s.store with
          image := { s.store.image with
            table := none, saveNo := s.store.image.saveNo + 1, writes := s.store.image.writes + 1 }
          st := .saving s.tables s.now, cond := .writing, mark := false, clock := .absent } }).reply .addressed (.ok []))) ∧
    (s.store.st ≠ .idle → exec (.save []) s = .next (s.reply .addressed (.nak .busy []))) ∧
    (s.store.st = .idle → s.store.mark = false → s.store.clock ≠ .due →
      exec (.reset .addressed) s =
        .next (({ s with link := { s.link with stop := some .ended } }).reply .addressed (.ok []))) ∧
    (s.store.st = .idle → s.store.mark = true → s.store.cond = .good →
      exec (.reset .addressed) s =
        .next (({ s with
          link := { s.link with stop := some .running }
          store := { s.store with image := image, st := .flushing target.1 copy s.now, mark := false, clock := .absent } } :
            State).reply .addressed (.ok []))) ∧
    (s.store.st ≠ .idle →
      exec (.reset .addressed) s =
        .next (({ s with link := { s.link with stop := some .waiting } }).reply .addressed (.ok [])) ∧
      exec (.reset .broadcast) s = .next { s with link := { s.link with stop := some .waiting } })

/-- LOAD with nothing armed, queued, in flight or held, the store IDLE and the image good: tables and settings become the
image's, routes stand IDLE with no outcome, an element that keeps kind, technology and a fitted bank keeps its position and
state, any other becomes UNKNOWN, one on a bank not fitted FAULT with position UNKNOWN, an element the image does not define is
undefined; live counts are kept, and a newly defined element takes the image's wear fields; otherwise it is refused BUSY or
STATE. The threshold of an element kept is the one the image gives as `Image.read` reads it, from the wear slot where one
qualifies: the model's choice (log entry 37). -/
def Obligations.LoadReplacesTheTables : Prop :=
  ∀ s : State, s.takesAlone →
    (s.store.st ≠ .idle → exec (.load []) s = .next (s.reply .addressed (.nak .busy []))) ∧
    (s.store.st = .idle →
      (s.seq ≠ none ∨ s.engine.waiting ≠ [] ∨ s.engine.flight ≠ none ∨ s.held ≠ [] ∨ s.store.cond ≠ .good) →
      exec (.load []) s = .next (s.reply .addressed (.nak .state []))) ∧
    ∀ t, s.store.st = .idle → s.seq = none → s.engine.waiting = [] → s.engine.flight = none → s.held = [] →
      s.store.cond = .good → s.store.image.read = some t →
      ∃ u : State, exec (.load []) s = .next (u.reply .addressed (.ok [])) ∧
        u.nodes = t.nodes ∧ u.settings = t.settings ∧
        (u.pending = s.pending ∧ u.now = s.now ∧ u.life = s.life ∧ u.straps = s.straps ∧ u.held = [] ∧ u.seq = none ∧
          u.supply = s.supply ∧ u.link = s.link ∧ u.store = s.store ∧ u.engine.waiting = [] ∧ u.engine.flight = none ∧
          u.senseLines = s.senseLines ∧ u.timers.outs = s.timers.outs ∧ u.timers.latch = s.timers.latch) ∧
        (∀ p, (tget u.routes p).map (fun r => (r.d, r.st, r.outcome, r.mark)) =
          (tget t.routes p).map (fun d => (d, RouteState.idle, none, none))) ∧
        (∀ e, tget t.elems e = none → tget u.elems e = none) ∧
        ∀ e x, tget t.elems e = some x →
          ∃ y, tget u.elems e = some y ∧ y.d = x.d ∧ y.losses = x.losses ∧ y.wear.limit = x.wear.limit ∧
            (tget s.elems e = none →
              y.pos = none ∧ y.wear = x.wear ∧ y.st = if isFitted s.straps x.d.bank then .unknown else .fault) ∧
            (isFitted s.straps x.d.bank = false → y.pos = none ∧ y.st = .fault) ∧
            ∀ o, tget s.elems e = some o →
              y.wear.life = o.wear.life ∧ y.wear.hot = o.wear.hot ∧
              (o.d.kind = x.d.kind → o.d.tech = x.d.tech → isFitted s.straps x.d.bank = true →
                y.pos = o.pos ∧ y.st = o.st) ∧
              ((o.d.kind ≠ x.d.kind ∨ o.d.tech ≠ x.d.tech) → isFitted s.straps x.d.bank = true →
                y.pos = none ∧ y.st = .unknown)

/-- The flush clock expires: a flush begins when the store is IDLE and the image GOOD, falls due while the store is busy, and is
skipped for an image that is not good. The flush copies every element's wear fields with the save number of the table section
into the slot without the newest valid copy, numbered one above that copy (the first ever: slot A, number 1, log entry 14); its
slot is invalid until it ends, and the wear-changed mark and the clock are cleared. A save and a flush end with their read-back:
the section or slot is valid only when it matches, and a STORE notice says so. Each happens at the later of now and its due
moment (log entry 2); a save may end from 80 ms on, a full one from 400 ms on (log entry 11), full being counted as log entry
47 says. -/
def Obligations.StoreWritesEnd : Prop :=
  ∀ s : State, s.still → s.link.stop = none →
    let target : Bool × Nat := match s.store.image.slotA, s.store.image.slotB with
      | some a, some b => if a.flushNo < b.flushNo then (false, b.flushNo + 1) else (true, a.flushNo + 1)
      | some a, none => (true, a.flushNo + 1)
      | none, some b => (false, b.flushNo + 1)
      | none, none => (false, 1)
    let saveNo := match s.store.image.table with
      | some sec => sec.saveNo
      | none => s.store.image.saveNo
    let copy : WearSlot := ⟨s.elems.map (fun kv => (kv.1, kv.2.wear)), saveNo, target.2⟩
    let image : Image := { s.store.image with
      slotA := if target.1 then s.store.image.slotA else none
      slotB := if target.1 then none else s.store.image.slotB
      writes := s.store.image.writes + 1 }
    (∀ t0, s.store.clock = .running t0 → s.store.st = .idle → s.store.mark = true → s.store.cond = .good →
      exec .flushClockExpiry s =
        .next { s.at t0 with store := { s.store with
          image := image, st := .flushing target.1 copy (max s.now t0), mark := false, clock := .absent } }) ∧
    (∀ t0, s.store.clock = .running t0 → s.store.st ≠ .idle →
      exec .flushClockExpiry s = .next { s.at t0 with store := { s.store with clock := .due } }) ∧
    (∀ t0, s.store.clock = .running t0 → s.store.st = .idle → s.store.cond ≠ .good →
      exec .flushClockExpiry s = .next { s.at t0 with store := { s.store with clock := .absent } }) ∧
    (∀ copy since, s.store.st = .saving copy since → s.store.clock ≠ .due →
      let t := s.at (since + if copy.allFull then 400000 else 80000)
      exec (.saveComplete true) s =
        .next { t with
          store := { s.store with
            image := { s.store.image with table := some ⟨copy, s.store.image.saveNo⟩ }, st := .idle, cond := .good }
          notices := queueNotice s.notices ⟨.store, t.noticeTime, vWord "SAVE", vWord "OK"⟩ } ∧
      exec (.saveComplete false) s =
        .next { t with
          store := { s.store with
            image := { s.store.image with table := none }, st := .idle, cond := .bad, mark := true
            clock := if s.store.clock = .absent then .running (t.now + 60000000) else s.store.clock }
          notices := queueNotice s.notices ⟨.store, t.noticeTime, vWord "SAVE", vWord "FAIL"⟩ }) ∧
    ∀ toB copy since, s.store.st = .flushing toB copy since → s.store.clock ≠ .due →
      let t := s.at (since + 20000)
      exec (.flushComplete true) s =
        .next { t with
          store := { s.store with image := s.store.image.setSlot toB (some copy), st := .idle }
          notices := queueNotice s.notices ⟨.store, t.noticeTime, vWord "FLUSH", vWord "OK"⟩ } ∧
      exec (.flushComplete false) s =
        .next { t with
          store := { s.store with
            image := s.store.image.setSlot toB none, st := .idle, mark := true
            clock := if s.store.clock = .absent then .running (t.now + 60000000) else s.store.clock }
          notices := queueNotice s.notices ⟨.store, t.noticeTime, vWord "FLUSH", vWord "FAIL"⟩ }

/-! ### Events of the link -/

/-- The characters of a record and the replies: `@` begins a record, a character inside one is kept and counted, a line feed is
disregarded, a CR outside a record does nothing; a link break empties the receive state and both queues; a bad record is
answered NAK SYNTAX; the oldest reply begins one character time after the end of the last character and leaves when its CR has
been sent; another station's character begins now and ends a character time later (log entry 22). After a break the last
character is the one then being sent (log entry 18), at a boundary the next one (log entry 46), and each event happens at the
later of now and its due moment (log entry 2). -/
def Obligations.LinkEventsAct : Prop :=
  ∀ s : State, s.life = .running →
    (s.link.receive = .outside → exec .recordReceived s = .next s) ∧
    exec (.commandPairCharacter 64#8 false) s =
      .next { s with link := { s.link with receive := .inside [('@', false)] 1 false } } ∧
    (∀ (c : BitVec 8) (kept : List (Char × Bool)) (count : Nat) (bad : Bool), s.link.receive = .inside kept count bad →
      32 ≤ c.toNat → c.toNat ≤ 126 → c ≠ 64#8 → kept.length < 95 → count < 95 →
      exec (.commandPairCharacter c false) s =
        .next { s with link := { s.link with
          receive := .inside (kept ++ [(Char.ofNat c.toNat, false)]) (count + 1) bad } }) ∧
    exec (.commandPairCharacter 10#8 false) s = .next s ∧
    (∀ (c : BitVec 8) (framing : Bool), s.link.receive = .outside → c ≠ 64#8 →
      exec (.commandPairCharacter c framing) s = .next s) ∧
    exec .linkBreak s =
      .next { s with link := { s.link with
        receive := .outside, inbound := [], replies := [], sending := none
        lastChar := match s.link.sending with
          | some t => max s.link.lastChar (charEnd s.straps.baud t s.now)
          | none => s.link.lastChar } } ∧
    (s.takesAlone → exec .badRecord s = .next (s.reply .addressed (.nak .badForm []))) ∧
    (∀ r q, s.link.replies = r :: q → s.link.sending = none →
      let t := max s.now (s.link.lastChar + charsTime s.straps.baud 1)
      exec .replyTransmitStart s = .next { s with now := t, link := { s.link with sending := some t } }) ∧
    (∀ r q t0, s.link.replies = r :: q → s.link.sending = some t0 → s.link.inbound = [] →
      let t := max s.now (t0 + charsTime s.straps.baud (s.replyLength r))
      exec .replySent s =
        .next { s with
          now := t, link := { s.link with replies := q, sending := none, lastChar := max s.link.lastChar t } }) ∧
    exec .replyPairCharacter s =
      .next { s with link := { s.link with
        lastChar := max s.link.lastChar (s.now + charsTime s.straps.baud 1) } }

/-! ### Events of the inputs -/

/-- QUIET, detector and supply changes with no plan in flight, and supply changes with a plan in MOVE. The level or reading is
stored, the RF state follows the threshold with 1 dB of hysteresis, and a change of supply state queues one SUPPLY notice. The
supply is CUT below 19.2 V and NORMAL at 21.6 V and above; between, NORMAL falls to LOW below 21.2 V and CUT rises to LOW at
19.6 V. With a plan in MOVE, entering CUT sets the hold clock to 500,000 µs from that moment, and leaving CUT clears it; then
nothing starts in a bank whose gap still runs, and a bank whose gap has run out starts the wave it held as WAVE_START does, or
else its first retry as RETRY_START does (stated of the one bank that holds something). -/
def Obligations.InputLevelsAreStored : Prop :=
  (∀ s : State, s.still → s.engine.flight = none →
    (∀ high, exec (.quietChange high) s = .next { s with guard := { s.guard with quiet := high } }) ∧
    (∀ (d : Fin 8) (x : Int),
      let was := s.guard.dets[d].present
      let th := s.settings.threshold[d]
      let present := if was then decide (th - 2 ≤ readPower x) else decide (th ≤ readPower x)
      exec (.detectorReading d x) s =
        .next { s with guard := { s.guard with dets := s.guard.dets.set d ⟨readPower x, present⟩ } }) ∧
    (∀ x : Int, ∃ t, exec (.supplyChange x) s = .next t ∧ t.supply.reading = readVoltage x ∧
      (t.supply.st = .cut ↔ readVoltage x < 192 ∨ (readVoltage x < 196 ∧ s.supply.st = .cut)) ∧
      (t.supply.st = .normal ↔ 216 ≤ readVoltage x ∨ (212 ≤ readVoltage x ∧ s.supply.st = .normal))) ∧
    ∀ x : Int,
      let v := readVoltage x
      (nextSupply s.supply.st v = s.supply.st →
        exec (.supplyChange x) s = .next { s with supply := ⟨v, s.supply.st⟩ }) ∧
      (nextSupply s.supply.st v ≠ s.supply.st →
        exec (.supplyChange x) s =
          .next { s with
            supply := ⟨v, nextSupply s.supply.st v⟩
            notices := queueNotice s.notices
              ⟨.supply, s.noticeTime, vWord (supplyText (nextSupply s.supply.st v)), vNum v⟩ })) ∧
  ∀ (s : State) (f : Flight) (x : Int), s.still → s.engine.flight = some f → f.phase = .move →
    let v := readVoltage x
    let st := if v < 192 then SupplyState.cut else if v < 216 then .low else .normal
    let after (limit : Option Micros) : State :=
      { s with
        supply := ⟨v, st⟩
        engine := { s.engine with flight := some { f with holdLimit := limit } }
        notices := queueNotice s.notices ⟨.supply, s.noticeTime, vWord (supplyText st), vNum v⟩ }
    (s.supply.st ≠ .cut → v < 192 → exec (.supplyChange x) s = .next (after (some (s.now + 500000)))) ∧
    (s.supply.st = .cut → 196 ≤ v →
      ((∀ (b : Fin 8) (t0 : Micros), (after none).waveDue b = some t0 ∨ (after none).retryDueAt b = some t0 → s.now < t0) →
        exec (.supplyChange x) s = .next (after none)) ∧
      ∀ (b : Fin 8) (t0 : Micros), t0 ≤ s.now →
        (∀ c : Fin 8, c ≠ b → (after none).waveDue c = none ∧ (after none).retryDueAt c = none) →
        ((after none).waveDue b = some t0 → exec (.supplyChange x) s = exec (.waveStart b) (after none)) ∧
        ((after none).retryDueAt b = some t0 → exec (.supplyChange x) s = exec (.retryStart b) (after none)))

/-- A report on the sense lines of an element that is not MOVING starts the count of a reading that differs from the present one,
2,000 µs from the newest report, and drops the count of one that no longer differs. A trigger input's raw change is filtered at
once, or begins or drops a qualification of 2 or 20 µs. -/
def Obligations.ReportsAndEdgesAreTimed : Prop :=
  ∀ s : State, s.still →
    (∀ (b slot : Fin 8) (closed : BitVec 8) (e : Nat) (x : Element) (r : Reading),
      s.senseLines[slotIndex b slot] ≠ closed → s.elemAt b slot = some e → tget s.elems e = some x → x.d.bank = b →
      x.d.slot = slot → (∀ t former, x.st ≠ .moving t former) → x.sense = some r →
      let report := readingOf x.d.kind x.d.tech closed
      exec (.senseReportChange b slot closed) s =
        .next { s with
          senseLines := s.senseLines.set (slotIndex b slot) closed
          elems := tmod s.elems e (countReport s.now report) } ∧
      countReport s.now report x = { x with counting := if report = r then none else some (report, s.now + 2000) }) ∧
    ∀ (i : Fin 4) (high : Bool),
      let x := s.timers.ins[i]
      x.raw ≠ high → s.seq = none → s.settings.pace.gate ≠ some i →
      (x.level = high →
        exec (.triggerInputChange i high) s =
          .next { s with timers := { s.timers with ins := s.timers.ins.set i ⟨high, x.level, none⟩ } }) ∧
      (x.level ≠ high → s.settings.inputs[i].filter = .off →
        exec (.triggerInputChange i high) s =
          .next { s with timers := { s.timers with ins := s.timers.ins.set i ⟨high, high, none⟩ } }) ∧
      (x.level ≠ high → s.settings.inputs[i].filter ≠ .off →
        let q := if s.settings.inputs[i].filter = .narrow then 2 else 20
        exec (.triggerInputChange i high) s =
          .next { s with timers := { s.timers with ins := s.timers.ins.set i ⟨high, x.level, some (s.now + q)⟩ } })

/-! ### Timed events -/

/-- LINK with no plan queued of a route with one element out of place enters GUARD: the guard set is the From node's port with
the mode and detector it has, its mute timeout runs, and INHIBIT is asserted at once for a port that needs the handshake, but
for a running release interval. The phase lasts while QUIET is low for such a port or the detector it watches is PRESENT. It
passes at the moment QUIET rises, or the last watched detector becomes ABSENT, with the other condition met, and MOVE starts at
that moment: every element of the move set becomes MOVING (stated of one SS and one EML element), the SS element's bias changes
and it settles, the EML element is pulsed in its bank's first wave, and each counts one pulse. Where both conditions hold at
entry it passes within the LINK.

The mute timeout of a LINK plan in GUARD: its op fails with cause GUARD, the hold ends and a release interval of 1,000 µs opens.
At the end of a release interval a plan waiting in GUARD for the handshake asserts INHIBIT. QUIET falling while a plan with
handshake ports is in MOVE and an element is pulsed is a hot event: the plan's first queues a HOT notice naming the lowest
handshake port, the pulse is charged to the element's hot count once, and the wear-changed mark is set. A timeout opens a
release interval whether or not the plan needed the handshake (log entry 32); a wear change starts a flush clock when none runs,
also when the mark is set already (log entry 48); each timed event happens at the later of now and its due moment (log entry 2).
-/
def Obligations.GuardEventsAct : Prop :=
  (∀ (s : State) (p e q : Nat) (r : Route) (x : Element) (n : Machine.Node), s.takesAlone → s.seq = none →
     s.engine.flight = none → s.engine.waiting = [] → inRoute p = true → tget s.routes p = some r → r.st = .idle →
     r.d.hops = [(e, q)] → tget s.elems e = some x → x.st ≠ .fault → isFitted s.straps x.d.bank = true →
     s.inPlace e q = false → s.conflicting p = [] → s.projection.length + 1 ≤ 32 → tget s.nodes r.d.src = some n →
     let mode := n.guard.getD .open_
     let handshake := decide (mode = .handshake ∨ mode = .both)
     let sense := decide (mode = .sense ∨ mode = .both)
     let watch := match n.det with
       | some d => if sense then [(d, r.d.src)] else []
       | none => []
     let move : Move := ⟨e, q, r.d.profile, .waiting, false⟩
     let flight : Flight :=
       ⟨⟨s.engine.nextId, .link, none, [⟨.link, p, false⟩], [], none, none⟩, .guard, s.now, [move],
         ⟨[⟨r.d.src, mode, n.det⟩], handshake, watch, s.now + s.settings.mute, false⟩, false, false, false, none,
         Vector.replicate 8 ⟨none, 0⟩⟩
     let linked : State := { s with
       routes := tmod s.routes p (fun y : Route => { y with st := .pending })
       engine := { s.engine with waiting := [], flight := some flight, nextId := s.engine.nextId + 1 }
       guard := { s.guard with planHold := handshake && s.guard.releaseEnd.isNone, carry := false } }
     ((handshake = true ∧ (s.guard.quiet = false ∨ (s.guard.releaseEnd ≠ none ∧ s.guard.safeHold = false))) ∨
         (∃ d, sense = true ∧ n.det = some d ∧ s.guard.dets[d].present = true) →
       exec (.link [aId .p p]) s = .next (linked.reply .addressed (.ok []))) ∧
     ((handshake = true → s.guard.quiet = true ∧ (s.guard.releaseEnd = none ∨ s.guard.safeHold = true)) →
       (∀ d, sense = true → n.det = some d → s.guard.dets[d].present = false) → x.d.tech = .eml → s.supply.st = .normal →
       1 ≤ s.settings.waveSize[x.d.bank] →
       x.wear.life < 99999999 → x.wear.limit = 0 →
       exec (.link [aId .p p]) s =
         .next (({ linked with
           elems := tmod s.elems e (fun y : Element => { y with
             st := .moving q (formerOf y.st), counting := none, wear := { y.wear with life := y.wear.life + 1 } })
           engine := { linked.engine with
             drive := s.engine.drive.set x.d.slotIndex (.coil q)
             flight := some { flight with
               phase := .move, moves := [{ move with prog := .pulsing false }]
               banks := (Vector.replicate 8 ⟨none, 0⟩).set x.d.bank ⟨some (s.now + s.settings.pulseEml), 0⟩ } } } :
                 State).markWear.reply .addressed (.ok [])))) ∧
  (∀ (s : State) (f : Flight) (m m2 : Move) (x x2 : Element), s.still → s.engine.flight = some f → f.phase = .guard →
     f.plan.kind ≠ .safe → f.holdExpired = false → f.moves = [m, m2] → m.elem ≠ m2.elem → m2.prog = .waiting →
     tget s.elems m.elem = some x → tget s.elems m2.elem = some x2 → x.d.tech = .ss → x2.d.tech = .eml →
     x.wear.limit = 0 → x2.wear.limit = 0 → x.wear.life < 99999999 → x2.wear.life < 99999999 →
     0 < s.settings.settleTime .ss m.profile → s.supply.st = .normal → 1 ≤ s.settings.waveSize[x2.d.bank] →
     let starts (target : Nat) (y : Element) : Element := { y with
       st := .moving target (formerOf y.st), counting := none, wear := { y.wear with life := y.wear.life + 1 } }
     let started (guard : GuardUnit) : State :=
       ({ s with
         guard := guard
         elems := tmod (tmod s.elems m.elem (starts m.target)) m2.elem (starts m2.target)
         engine := { s.engine with
           drive := (s.engine.drive.set x.d.slotIndex (.bias m.target)).set x2.d.slotIndex (.coil m2.target)
           flight := some { f with
             phase := .move
             holdLimit := none
             moves := [{ m with prog := .settling false (s.now + s.settings.settleTime .ss m.profile), charged := false },
               { m2 with prog := .pulsing false, charged := false }]
             banks := (Vector.replicate 8 ⟨none, 0⟩).set x2.d.bank ⟨some (s.now + s.settings.pulseEml), 0⟩ } } } :
               State).markWear
     (f.guard.handshake = true → s.guard.inhibit = true → s.guard.quiet = false →
       (∀ dn ∈ f.guard.watch, s.guard.dets[dn.1].present = false) →
       exec (.quietChange true) s = .next (started { s.guard with quiet := true })) ∧
     ∀ (d : Fin 8) (c : Int), (f.guard.handshake = true → s.guard.inhibit = true ∧ s.guard.quiet = true) →
       (∀ dn ∈ f.guard.watch, dn.1 = d ∨ s.guard.dets[dn.1].present = false) → (∃ n, (d, n) ∈ f.guard.watch) →
       s.guard.dets[d].present = true → readPower c < s.settings.threshold[d] - 2 →
       exec (.detectorReading d c) s =
         .next (started { s.guard with dets := s.guard.dets.set d ⟨readPower c, false⟩ })) ∧
  (∀ (s : State) (f : Flight) (m : Move) (x : Element) (retry : Bool) (n : Nat), s.still → s.guard.quiet = true →
     s.engine.flight = some f → f.phase = .move → f.guard.handshake = true → f.guard.hotReported = false →
     f.moves = [m] → m.prog = .pulsing retry → m.charged = false → tget s.elems m.elem = some x → x.wear.hot < 65535 →
     ((f.guard.ports.filter (fun g => g.mode.needsQuiet)).map (·.node)).min? = some n →
     exec (.quietChange false) s =
       .next (({ s with
         guard := { s.guard with quiet := false }
         elems := tmod s.elems m.elem (fun y : Element => { y with wear := { y.wear with hot := y.wear.hot + 1 } })
         engine := { s.engine with flight := some { f with
           guard := { f.guard with hotReported := true }, moves := [{ m with charged := true }] } }
         notices := queueNotice s.notices ⟨.hot, s.noticeTime, vNode n, vWord "QUIET"⟩ } : State).markWear)) ∧
  (∀ (s : State) (f : Flight) (id p : Nat) (rel : List (Nat × MarkKind)) (x : Route), s.life = .running →
    s.engine.flight = some f → f.phase = .guard → f.plan = ⟨id, .link, none, [⟨.link, p, false⟩], rel, none, none⟩ →
    f.checkFailed = false → s.engine.waiting = [] → s.seq = none → tget s.routes p = some x → x.st = .pending →
    let t := s.at f.guard.expiry
    exec .muteTimeout s =
      .next { t with
        routes := tmod s.routes p (fun y : Route => { y with st := .idle, outcome := some (.failed .guard), mark := none })
        engine := { s.engine with flight := none }
        guard := { s.guard with planHold := false, carry := false, releaseEnd := some (t.now + 1000) }
        notices := queueNotice s.notices ⟨.fail, t.noticeTime, vRoute p, vWord "GUARD"⟩ }) ∧
  (∀ (s : State) (t0 : Micros), s.still → s.engine.flight = none → s.guard.releaseEnd = some t0 →
    exec .releaseIntervalEnd s = .next { s.at t0 with guard := { s.guard with releaseEnd := none } }) ∧
  ∀ (s : State) (f : Flight) (t0 : Micros), s.still → s.engine.flight = some f → f.phase = .guard →
    f.guard.handshake = true → s.guard.quiet = false → s.guard.releaseEnd = some t0 →
    exec .releaseIntervalEnd s = .next { s.at t0 with guard := { s.guard with releaseEnd := none, planHold := true } }

/-- A bank's next wave takes the EM elements of the move set not yet pulsed, in ascending order, up to the effective size (1 while
the supply is LOW), and lasts the longest pulse width among them: an EML element's coil is driven, an EMF element gets pull-in
drive or loses its holding current, each counts one pulse, and the wear-changed mark is set. A wave or a retry of one EML element
is such a wave. When the wave ends, the drive is removed, the element settles, and the bank's gap runs. Each happens at the later
of now and its due moment (log entry 2); a pulse starts a flush clock when none runs, also when the mark is set already (log entry
48). -/
def Obligations.WavesRun : Prop :=
  (∀ (s : State) (f : Flight) (m : Move) (x : Element) (b : Fin 8), s.life = .running → s.engine.flight = some f →
    f.phase = .move → f.moves = [m] → tget s.elems m.elem = some x → x.d.tech = .eml → x.d.bank = b →
    (f.banks[b].endsAt = none → f.holdExpired = false → s.supply.st = .normal → 1 ≤ s.settings.waveSize[b] →
      x.wear.life < 99999999 → x.wear.limit = 0 →
      let t := s.at f.banks[b].freeAt
      let after (retry : Bool) : State :=
        ({ t with
          elems := tmod s.elems m.elem (fun y : Element => { y with wear := { y.wear with life := y.wear.life + 1 } })
          engine := { s.engine with
            drive := s.engine.drive.set x.d.slotIndex (.coil m.target)
            flight := some { f with
              moves := [{ m with prog := .pulsing retry, charged := false }]
              banks := f.banks.set b { f.banks[b] with endsAt := some (t.now + s.settings.pulseEml) } } } } : State).markWear
      (m.prog = .waiting → exec (.waveStart b) s = .next (after false)) ∧
      ∀ since, m.prog = .retryDue since → exec (.retryStart b) s = .next (after true)) ∧
    ∀ retry t0, m.prog = .pulsing retry → f.banks[b].endsAt = some t0 → 0 < s.settings.settleTime .eml m.profile →
      let t := s.at t0
      exec (.waveEnd b) s =
        .next { t with engine := { s.engine with
          drive := s.engine.drive.set x.d.slotIndex .off
          flight := some { f with
            moves := [{ m with prog := .settling retry (t.now + s.settings.settleTime .eml m.profile) }]
            banks := f.banks.set b ⟨none, t.now + 2000⟩ } } }) ∧
  ∀ (s : State) (f : Flight) (b : Fin 8), s.life = .running → s.engine.flight = some f → f.phase = .move →
    f.moves.Pairwise (fun m n => m.elem < n.elem) → f.banks[b].endsAt = none → f.holdExpired = false → s.supply.st ≠ .cut →
    let size := if s.supply.st = .low then 1 else s.settings.waveSize[b]
    let wave := (f.moves.filter (fun m => m.isWaiting && s.emInBank b m.elem)).take size
    let inWave (e : Nat) : Bool := wave.any (fun m => m.elem = e)
    let width (m : Move) : Micros := if s.techOf m.elem = .emf then s.settings.pulseEmf else s.settings.pulseEml
    let t := s.at f.banks[b].freeAt
    wave ≠ [] → (∀ m ∈ wave, ∃ x, tget s.elems m.elem = some x ∧ x.wear.life < 99999999 ∧ x.wear.limit = 0) →
    exec (.waveStart b) s =
      .next ({ t with
        elems := s.elems.map (fun kv : Nat × Element =>
          if inWave kv.1 then (kv.1, { kv.2 with wear := { kv.2.wear with life := kv.2.wear.life + 1 } }) else kv)
        engine := { s.engine with
          drive := wave.foldl (fun lines m =>
            match tget s.elems m.elem with
            | some x => lines.set x.d.slotIndex
                (if x.d.tech = .eml then .coil m.target else if m.target = 2 then .pullIn else .off)
            | none => lines) s.engine.drive
          flight := some { f with
            moves := f.moves.map (fun m => if inWave m.elem then { m with prog := .pulsing false, charged := false } else m)
            banks := f.banks.set b
              { f.banks[b] with endsAt := some (t.now + (wave.map width).foldl max 0) } } } } : State).markWear

/-- The ready time of one element of two: a sensed element whose reading matches, and an unsensed one, arrive in place; a first
mismatch makes a retry due; a second puts the element in FAULT with an EFAULT notice. No route claims the element. It happens at
the later of now and the ready time (log entry 2). -/
def Obligations.ElementsAreVerified : Prop :=
  ∀ (s : State) (f : Flight) (m m2 : Move) (x : Element) (retry : Bool) (t0 : Micros), s.life = .running →
    s.engine.flight = some f → f.phase = .move → f.moves = [m, m2] → m2.elem ≠ m.elem → m2.prog ≠ .resolved →
    m.prog = .settling retry t0 → tget s.elems m.elem = some x → s.claims m.elem = [] →
    let t := s.at t0
    let flight (p : Progress) : Engine := { s.engine with flight := some { f with moves := [{ m with prog := p }, m2] } }
    (∀ r, x.sense = some r → s.reading x.d = .pos m.target →
      exec (.elementReady m.elem) s =
        .next { t with
          elems := tmod s.elems m.elem (fun y : Element =>
            { y with pos := some m.target, st := .idle, sense := some (.pos m.target), counting := none })
          engine := flight .resolved }) ∧
    (x.sense = none →
      exec (.elementReady m.elem) s =
        .next { t with
          elems := tmod s.elems m.elem (fun y : Element =>
            { y with pos := some m.target, st := .idle, sense := none, counting := none })
          engine := flight .resolved }) ∧
    (∀ r, x.sense = some r → s.reading x.d ≠ .pos m.target → retry = false →
      exec (.elementReady m.elem) s = .next { t with engine := flight (.retryDue t.now) }) ∧
    ∀ r, x.sense = some r → s.reading x.d ≠ .pos m.target → retry = true →
      exec (.elementReady m.elem) s =
        .next { t with
          elems := tmod s.elems m.elem (fun y : Element =>
            { y with pos := (s.reading x.d).asPos, st := .fault, sense := some (s.reading x.d), counting := none })
          engine := flight .resolved
          notices := queueNotice s.notices
            ⟨.efault, t.noticeTime, vElem m.elem, vJoin ':' [vNum m.target, vReading (s.reading x.d)]⟩ }

/-- The hold limit of a LINK plan expires under CUT with every element of its move set resolved, not begun, or waiting for its
retry (R103): an element not begun returns to the state it had before the move, one waiting for its retry takes its present
reading, and the plan is ready at this moment: its route is HELD when every element it names is in place, and has FAILED with
cause SUPPLY otherwise. A counted reading of an IDLE element without claims is drift: the recorded position becomes the reading
and a DRIFT notice tells both; with one claim the route is broken after it. Each happens at the later of now and its due moment
(log entry 2); the detail of DONE is the exact elapsed time (log entry 44). -/
def Obligations.HoldLimitAndDrift : Prop :=
  (∀ (s : State) (f : Flight) (id p : Nat) (rel : List (Nat × MarkKind)) (x : Route) (t0 : Micros), s.life = .running →
    s.engine.flight = some f → f.phase = .move → f.plan = ⟨id, .link, none, [⟨.link, p, false⟩], rel, none, none⟩ →
    f.checkFailed = false → f.guardFailed = false → f.holdLimit = some t0 → s.supply.st = .cut → s.engine.waiting = [] →
    s.seq = none → tget s.routes p = some x → x.st = .pending → tsorted s.elems →
    f.moves.Pairwise (fun m n => m.elem < n.elem) →
    (∀ m ∈ f.moves, m.prog = .resolved ∨ m.prog = .waiting ∨ ∃ since, m.prog = .retryDue since) →
    let present (y : Element) : Option Reading := if y.sense.isSome then some (s.reading y.d) else none
    let withdrawn (m : Move) (y : Element) : Element :=
      match m.prog, y.st with
      | .waiting, .moving _ former => { y with st := former.toState, sense := present y, counting := none }
      | .retryDue _, .moving target former =>
        let pos := match present y with
          | some (.pos q) => some q
          | some .nothing => none
          | none => some target
        { y with
          pos := pos
          st := if former = .fault then .fault else if pos = none then .unknown else .idle
          sense := present y, counting := none }
      | _, _ => y
    let t := s.at t0
    let u : State := { t with
      elems := s.elems.map (fun kv : Nat × Element =>
        match f.moves.find? (fun m => m.elem = kv.1) with
        | some m => (kv.1, withdrawn m kv.2)
        | none => kv)
      engine := { s.engine with flight := none }
      guard := { s.guard with planHold := false, carry := false } }
    ((∀ h ∈ x.d.hops, u.inPlace h.1 h.2 = true) →
      exec .holdLimitExpiry s =
        .next { u with
          routes := tmod s.routes p (fun y : Route => { y with st := .held, outcome := some .ok })
          held := s.held ++ [p]
          notices := queueNotice s.notices ⟨.done, t.noticeTime, vRoute p, vNum (t.now - f.started)⟩ }) ∧
    ((∃ h ∈ x.d.hops, u.inPlace h.1 h.2 = false) →
      exec .holdLimitExpiry s =
        .next { u with
          routes := tmod s.routes p (fun y : Route => { y with st := .idle, outcome := some (.failed .supply), mark := none })
          notices := queueNotice s.notices ⟨.fail, t.noticeTime, vRoute p, vWord "SUPPLY"⟩ })) ∧
  ∀ (s : State) (e : Nat) (x : Element) (r : Reading) (t0 : Micros), s.still → tget s.elems e = some x → x.st = .idle →
    x.counting = some (r, t0) →
    let t := s.at t0
    let after : State :=
      { t with
        elems := tmod s.elems e (fun y : Element =>
          { y with pos := r.asPos, st := if y.st = .fault then .fault else if r.asPos.isSome then .idle else .unknown,
                   sense := some r, counting := none })
        notices := queueNotice s.notices ⟨.drift, t.noticeTime, vElem e, vJoin ':' [vPos x.pos, vPos r.asPos]⟩ }
    (s.claims e = [] → exec (.readingCounted e) s = .next after) ∧
    ∀ p, s.claims e = [p] →
      exec (.readingCounted e) s =
        .next { after with
          routes := tmod s.routes p (fun y : Route => { y with st := .idle, outcome := some (.broken .drift), mark := none })
          held := s.held.filter (· ≠ p)
          notices := queueNotice after.notices ⟨.broken, t.noticeTime, vRoute p, vWord "DRIFT"⟩ }

/-- The timers of a halted run and of the lines: a qualification ends in a change of the filtered level; the pace timer reloads
from the moment of its expiry, a pending new count included, or waits for the next rise in RETRIG mode; an output pulse ends LOW.
Each happens at the later of now and its due moment; the pace timer reloads from its due moment even when taken late (log entry
2). -/
def Obligations.LineTimersAct : Prop :=
  ∀ s : State, s.still →
    (∀ (i : Fin 4) (t0 : Micros),
      let x := s.timers.ins[i]
      x.qual = some t0 → s.seq = none → s.settings.pace.gate ≠ some i →
      exec (.qualificationEnd i) s =
        .next { s.at t0 with timers := { s.timers with ins := s.timers.ins.set i ⟨x.raw, !x.level, none⟩ } }) ∧
    (∀ (r : Run) (p : ResumePoint) (t0 : Micros), s.seq = some r → r.mode = .halted p →
      s.timers.pace.phase = .counting t0 →
      let count := if s.timers.pace.pend then s.settings.pace.count else s.timers.pace.loaded
      (s.settings.pace.mode ≠ .retrig →
        exec .paceExpiry s =
          .next { s.at t0 with timers := { s.timers with pace := ⟨.counting (t0 + 10 * paceTicks count), count, false⟩ } }) ∧
      (s.settings.pace.mode = .retrig →
        exec .paceExpiry s =
          .next { s.at t0 with timers := { s.timers with pace := { s.timers.pace with phase := .ready } } })) ∧
    ∀ (o : Fin 4) (t0 : Micros), s.timers.outs[o] = .pulse t0 →
      exec (.outputPulseEnd o) s =
        .next { s.at t0 with timers := { s.timers with outs := s.timers.outs.set o .off } }

/-- The window of a WAITING step closes: LATE, then HALTED with a HALT notice under policy HALT, or SWITCHING under FORCE. A dwell
expires and the step ends: a pulse output with moment END fires, level outputs tied to the step fall, and the next step, or the
first one of a further pass, waits for its source with a fresh window or, when it is AUTO, has its plan submitted; after the last
step of the last pass LISTEND is queued and the sequencer returns to IDLE.

The plan ready of a step's plan, here that of a plan linking one route through one unsensed element, which arrives last: with
nothing due or a HALT due, the READY action fires, the STEP notice carries the pass and the route's loss when asked for, and the
dwell is chosen; then DWELL, or HALTED with resume point DWELL. An ABORT due ends the run instead, with neither action nor STEP
notice. A result FAIL, here at the mute timeout, halts the run with resume point RETRY; the release interval opens whether or not
the plan needed the handshake (log entry 32). Each event happens at the later of now and its due moment (log entry 2). -/
def Obligations.SequencerTimersAct : Prop :=
  (∀ (s : State) (r : Run) (l : ListRec), s.still → s.seq = some r → tget s.settings.lists r.list = some l →
    (∀ since, r.mode = .waiting → s.timers.window = .running since → l.late ≠ 0 →
      let t := s.at (since + l.late)
      let late := queueNotice s.notices ⟨.late, t.noticeTime, vStep r.step, vNum l.late⟩
      (l.lateForce = false →
        exec .windowClose s =
          .next { t with
            seq := some { r with mode := .halted .wait, trigger := none }
            timers := { s.timers with window := .stopped l.late, outs := s.timers.outs.map (freezeOut t.now) }
            notices := queueNotice late ⟨.halt, t.noticeTime, vStep r.step, vWord "LATE"⟩ }) ∧
      (l.lateForce = true →
        exec .windowClose s =
          .next ({ t with
            seq := some { r with mode := .switching false none }
            timers := { s.timers with window := .stopped l.late }
            notices := late } : State).settled)) ∧
    ∀ t0 st, r.mode = .dwell → s.timers.dwell = .running t0 → tget s.settings.steps r.step = some st →
      let t := s.at t0
      let fired := match st.act with
        | some a =>
          if a.atReady = false ∧ s.settings.widths[a.out] ≠ 0 then
            s.timers.outs.set a.out (.pulse (t.now + s.settings.widths[a.out])) else s.timers.outs
        | none => s.timers.outs
      let next : Run :=
        if r.step < l.last then { r with step := r.step + 1, chosen := none }
        else { r with step := l.first, pass := if l.passes = 0 then (r.pass + 1) % 65536 else r.pass + 1, chosen := none }
      (∀ st', (r.step < l.last ∨ l.passes = 0 ∨ r.pass + 1 < l.passes) → tget s.settings.steps next.step = some st' →
        (st'.src ≠ .auto → r.trigger = none →
          exec .dwellExpiry s =
            .next { t with
              seq := some { next with mode := .waiting, trigger := none }
              timers := { s.timers with
                dwell := .stopped, window := .running t.now, outs := fired.map (lowerLevel r.step) } }) ∧
        (st'.src = .auto →
          exec .dwellExpiry s =
            .next ({ t with
              seq := some { next with mode := .switching false none }
              timers := { s.timers with dwell := .stopped, outs := fired.map (lowerLevel r.step) } } : State).settled)) ∧
      (l.last ≤ r.step → l.passes ≠ 0 → l.passes ≤ r.pass + 1 →
        exec .dwellExpiry s =
          .next { t with
            seq := none
            timers := { s.timers with
              outs := Vector.replicate 4 .off, pace := ⟨.stopped, s.timers.pace.loaded, false⟩, window := .stopped 0
              dwell := .stopped, latch := .empty }
            notices := queueNotice s.notices ⟨.listend, t.noticeTime, vId .l r.list, vNum l.passes⟩ })) ∧
  ∀ (s : State) (r : Run) (l : ListRec) (st : StepRec) (due : Option Due) (f : Flight) (id p e q : Nat) (x : Route)
      (y : Element) (ovr : Option Profile), s.life = .running →
    s.seq = some { r with mode := .switching true due } → tget s.settings.lists r.list = some l →
    tget s.settings.steps r.step = some st → st.ops = [⟨.link, p⟩] → s.engine.flight = some f →
    f.plan = ⟨id, .step, some r.step, [⟨.link, p, false⟩], [], none, ovr⟩ → s.engine.waiting = [] → f.checkFailed = false →
    tget s.routes p = some x → x.st = .pending → x.d.hops = [(e, q)] → tget s.elems e = some y → y.sense = none →
    let step := vStep r.step
    let dwell := match st.sel with
      | .a => st.dwellA
      | .b => st.dwellB
      | .pat => if l.pattern.testBit (r.pass % 16) then st.dwellB else st.dwellA
    let loss := vJoin ':' [vNum r.pass, vNum (s.routeLoss x (l.freq.getD 0))]
    let idle : Timers := { s.timers with
      outs := Vector.replicate 4 .off, pace := ⟨.stopped, s.timers.pace.loaded, false⟩, window := .stopped 0
      dwell := .stopped, latch := .empty }
    (∀ m t0 retry, f.phase = .move → f.guardFailed = false → f.moves = [m] → m.elem = e → m.target = q →
      m.prog = .settling retry t0 →
      let t := s.at t0
      let ready : State := { t with
        elems := tmod s.elems e (fun z : Element => { z with pos := some q, st := .idle, sense := none, counting := none })
        routes := tmod s.routes p (fun z : Route => { z with st := .held, outcome := some .ok })
        held := s.held ++ [p]
        engine := { s.engine with flight := none }
        guard := { s.guard with planHold := false, carry := false } }
      let outs := match st.act with
        | some a =>
          if s.settings.widths[a.out] = 0 then s.timers.outs.set a.out (.level r.step)
          else if a.atReady then s.timers.outs.set a.out (.pulse (t.now + s.settings.widths[a.out])) else s.timers.outs
        | none => s.timers.outs
      let notices := if st.rep then
          queueNotice s.notices ⟨.step, t.noticeTime, step, if l.freq = none then vNum r.pass else loss⟩
        else s.notices
      (due = none → dwell ≠ 0 →
        exec (.elementReady e) s =
          .next { ready with
            seq := some { r with mode := .dwell, chosen := some dwell }
            timers := { s.timers with outs := outs, dwell := .running (t.now + dwell) }
            notices := notices }) ∧
      (due = some .halt →
        exec (.elementReady e) s =
          .next { ready with
            seq := some { r with mode := .halted .dwell, trigger := none, chosen := some dwell }
            timers := { s.timers with outs := outs.map (freezeOut t.now) }
            notices := queueNotice notices ⟨.halt, t.noticeTime, step, vWord "HALT"⟩ }) ∧
      (due = some .abort →
        exec (.elementReady e) s =
          .next { ready with
            seq := none
            timers := idle
            notices := queueNotice s.notices ⟨.halt, t.noticeTime, step, vWord "ABORT"⟩ })) ∧
    (f.phase = .guard → due ≠ some .abort →
      let t := s.at f.guard.expiry
      exec .muteTimeout s =
        .next { t with
          seq := some { r with mode := .halted .retry, trigger := none }
          routes := tmod s.routes p (fun z : Route => { z with st := .idle, outcome := some (.failed .guard), mark := none })
          engine := { s.engine with flight := none }
          guard := { s.guard with planHold := false, carry := false, releaseEnd := some (t.now + 1000) }
          timers := { s.timers with outs := s.timers.outs.map (freezeOut t.now) }
          notices := queueNotice (queueNotice s.notices ⟨.fail, t.noticeTime, vRoute p, vWord "GUARD"⟩)
            ⟨.halt, t.noticeTime, step, vWord "FAIL"⟩ })

/-! ### The Held Set over every step -/

/-- The Held Set of R34 at every step: no route is held twice, at most 32 are held, no two of them conflict, and every element a
held route names is IDLE in the position the route requires; with what keeps it so (`State.heldSound`): every waiting plan adds
only what fits the routes that will be held at its turn (R36, R37), defined routes and steps pass their checks (R27, R124), and a
controller that does not run holds nothing. Tables in canonical form stay so by `TablesStayCanonical`. -/
def Obligations.HeldSetStaysSound : Prop :=
  ∀ s t : State, s.canonical → s.heldSound → step s = .next t → t.heldSound
end

