-- ==== Sys2Proof/Laws/Chain.lean ====
section
/-! SUPPORT. Laws of the chain of instants and of the interpreter. -/

namespace Sys2Proof.Machine

/-- Whether the plan in flight has something due depends on the guard alone beside the plan itself. -/
theorem flightInstant_isNone_congr {s t : State} (f : Flight) (hg : t.guard = s.guard) :
    (t.flightInstant f).isNone = (s.flightInstant f).isNone := by
  unfold State.flightInstant State.guardPasses
  rw [hg]
  cases f.phase <;> simp <;> split <;> simp_all

/-- Whether anything is due at this moment depends on the engine, the guard and the sequencer alone. -/
theorem instant_none_congr {s t : State} (he : t.engine = s.engine) (hg : t.guard = s.guard) (hq : t.seq = s.seq)
    (h : s.instant = none) : t.instant = none := by
  unfold State.instant at h ⊢
  rw [he, hg]
  have hs : t.toSubmit = s.toSubmit := by unfold State.toSubmit; rw [hq]
  rw [hs]
  cases hf : s.engine.flight with
  | some f =>
    simp only [hf] at h ⊢
    have := flightInstant_isNone_congr (s := s) (t := t) f hg
    rw [h] at this
    simpa using this
  | none =>
    simp only [hf] at h ⊢
    cases hw : s.engine.waiting with
    | cons p ps => simp [hw] at h
    | nil =>
      simp only [hw] at h ⊢
      cases hts : s.toSubmit with
      | some rd => simp [hts] at h
      | none =>
        simp only [hts] at h ⊢
        split at h <;> simp_all

/-- A chain with nothing due changes nothing. -/
theorem settle_quiet (n : Nat) {s : State} (h : s.instant = none) : settle n s = s := by
  cases n <;> simp [settle, h]

theorem settled_quiet {s : State} (h : s.instant = none) : s.settled = s := settle_quiet _ h

/-- The chain takes the instants one after another. -/
theorem settle_step (n : Nat) {s t : State} (h : s.instant = some t) : settle (n + 1) s = settle n t := by
  simp [settle, h]

/-- A property that every instant keeps holds at the end of the chain. -/
theorem settle_induct (P : State → Prop) (hP : ∀ s t, P s → s.instant = some t → P t) :
    ∀ (n : Nat) (s : State), P s → P (settle n s)
  | 0, _, h => h
  | n + 1, s, h => by
    unfold settle
    cases hi : s.instant with
    | none => exact h
    | some t => exact settle_induct P hP n t (hP s t h hi)

theorem settled_induct (P : State → Prop) (hP : ∀ s t, P s → s.instant = some t → P t) {s : State} (h : P s) :
    P s.settled := settle_induct P hP _ s h

/-- The queue never holds a record while it could be taken only if draining stops. -/
theorem drain_empty (n : Nat) {s : State} (h : s.link.inbound = []) : s.drain n = s := by
  cases n <;> simp [State.drain, h]

/-- A record that can be taken at once is taken at once (R185). -/
theorem receive_take {s : State} {c : Instr} {cmd : State → Answer} (hh : s.hears c.via = true)
    (hi : s.link.inbound = []) (hr : s.ready c.via = true) : s.receive c cmd = s.take c.via cmd := by
  simp [State.receive, hh, hi, hr]

/-- A station that cannot hear a record is unchanged by it (R179, R181). -/
theorem receive_deaf {s : State} {c : Instr} {cmd : State → Answer} (hh : s.hears c.via = false) :
    s.receive c cmd = s := by
  simp [State.receive, hh]

/-- A command taken with nothing due afterwards leaves exactly its own effect and its reply. -/
theorem take_quiet {s : State} {v : Via} {cmd : State → Answer} (h : ((cmd s).2.reply v (cmd s).1).instant = none) :
    s.take v cmd = (cmd s).2.reply v (cmd s).1 := settled_quiet h

/-- A reply changes nothing that could fall due. -/
theorem reply_instant {s : State} (v : Via) (r : Reply) (h : s.instant = none) : (s.reply v r).instant = none := by
  cases v
  · exact instant_none_congr (s := s) rfl rfl rfl h
  · exact h

end Sys2Proof.Machine
end

