-- ==== Sys2Proof/Laws/State.lean ====
section
/-! SUPPORT. Every field after each shared update of the state: one lemma per field per update, true by `rfl`. -/

namespace Sys2Proof.Machine

section
variable (s : State) (t : Micros)
@[simp] theorem State.at_pending : (s.at t).pending = s.pending := rfl
@[simp] theorem State.at_now : (s.at t).now = max s.now t := rfl
@[simp] theorem State.at_life : (s.at t).life = s.life := rfl
@[simp] theorem State.at_resetLine : (s.at t).resetLine = s.resetLine := rfl
@[simp] theorem State.at_straps : (s.at t).straps = s.straps := rfl
@[simp] theorem State.at_nodes : (s.at t).nodes = s.nodes := rfl
@[simp] theorem State.at_elems : (s.at t).elems = s.elems := rfl
@[simp] theorem State.at_senseLines : (s.at t).senseLines = s.senseLines := rfl
@[simp] theorem State.at_routes : (s.at t).routes = s.routes := rfl
@[simp] theorem State.at_held : (s.at t).held = s.held := rfl
@[simp] theorem State.at_settings : (s.at t).settings = s.settings := rfl
@[simp] theorem State.at_engine : (s.at t).engine = s.engine := rfl
@[simp] theorem State.at_guard : (s.at t).guard = s.guard := rfl
@[simp] theorem State.at_supply : (s.at t).supply = s.supply := rfl
@[simp] theorem State.at_seq : (s.at t).seq = s.seq := rfl
@[simp] theorem State.at_timers : (s.at t).timers = s.timers := rfl
@[simp] theorem State.at_link : (s.at t).link = s.link := rfl
@[simp] theorem State.at_notices : (s.at t).notices = s.notices := rfl
@[simp] theorem State.at_store : (s.at t).store = s.store := rfl
end

section
variable (s : State) (k : NoticeKind) (a b : Val)
@[simp] theorem State.notify_pending : (s.notify k a b).pending = s.pending := rfl
@[simp] theorem State.notify_now : (s.notify k a b).now = s.now := rfl
@[simp] theorem State.notify_life : (s.notify k a b).life = s.life := rfl
@[simp] theorem State.notify_resetLine : (s.notify k a b).resetLine = s.resetLine := rfl
@[simp] theorem State.notify_straps : (s.notify k a b).straps = s.straps := rfl
@[simp] theorem State.notify_nodes : (s.notify k a b).nodes = s.nodes := rfl
@[simp] theorem State.notify_elems : (s.notify k a b).elems = s.elems := rfl
@[simp] theorem State.notify_senseLines : (s.notify k a b).senseLines = s.senseLines := rfl
@[simp] theorem State.notify_routes : (s.notify k a b).routes = s.routes := rfl
@[simp] theorem State.notify_held : (s.notify k a b).held = s.held := rfl
@[simp] theorem State.notify_settings : (s.notify k a b).settings = s.settings := rfl
@[simp] theorem State.notify_engine : (s.notify k a b).engine = s.engine := rfl
@[simp] theorem State.notify_guard : (s.notify k a b).guard = s.guard := rfl
@[simp] theorem State.notify_supply : (s.notify k a b).supply = s.supply := rfl
@[simp] theorem State.notify_seq : (s.notify k a b).seq = s.seq := rfl
@[simp] theorem State.notify_timers : (s.notify k a b).timers = s.timers := rfl
@[simp] theorem State.notify_link : (s.notify k a b).link = s.link := rfl
@[simp] theorem State.notify_notices : (s.notify k a b).notices = queueNotice s.notices ⟨k, s.noticeTime, a, b⟩ := rfl
@[simp] theorem State.notify_store : (s.notify k a b).store = s.store := rfl
end

section
variable (s : State) 
@[simp] theorem State.markWear_pending : (s.markWear).pending = s.pending := rfl
@[simp] theorem State.markWear_now : (s.markWear).now = s.now := rfl
@[simp] theorem State.markWear_life : (s.markWear).life = s.life := rfl
@[simp] theorem State.markWear_resetLine : (s.markWear).resetLine = s.resetLine := rfl
@[simp] theorem State.markWear_straps : (s.markWear).straps = s.straps := rfl
@[simp] theorem State.markWear_nodes : (s.markWear).nodes = s.nodes := rfl
@[simp] theorem State.markWear_elems : (s.markWear).elems = s.elems := rfl
@[simp] theorem State.markWear_senseLines : (s.markWear).senseLines = s.senseLines := rfl
@[simp] theorem State.markWear_routes : (s.markWear).routes = s.routes := rfl
@[simp] theorem State.markWear_held : (s.markWear).held = s.held := rfl
@[simp] theorem State.markWear_settings : (s.markWear).settings = s.settings := rfl
@[simp] theorem State.markWear_engine : (s.markWear).engine = s.engine := rfl
@[simp] theorem State.markWear_guard : (s.markWear).guard = s.guard := rfl
@[simp] theorem State.markWear_supply : (s.markWear).supply = s.supply := rfl
@[simp] theorem State.markWear_seq : (s.markWear).seq = s.seq := rfl
@[simp] theorem State.markWear_timers : (s.markWear).timers = s.timers := rfl
@[simp] theorem State.markWear_link : (s.markWear).link = s.link := rfl
@[simp] theorem State.markWear_notices : (s.markWear).notices = s.notices := rfl
end

section
variable (s : State) (e : Nat) (f : Element → Element)
@[simp] theorem State.modElem_pending : (s.modElem e f).pending = s.pending := rfl
@[simp] theorem State.modElem_now : (s.modElem e f).now = s.now := rfl
@[simp] theorem State.modElem_life : (s.modElem e f).life = s.life := rfl
@[simp] theorem State.modElem_resetLine : (s.modElem e f).resetLine = s.resetLine := rfl
@[simp] theorem State.modElem_straps : (s.modElem e f).straps = s.straps := rfl
@[simp] theorem State.modElem_nodes : (s.modElem e f).nodes = s.nodes := rfl
@[simp] theorem State.modElem_elems : (s.modElem e f).elems = tmod s.elems e f := rfl
@[simp] theorem State.modElem_senseLines : (s.modElem e f).senseLines = s.senseLines := rfl
@[simp] theorem State.modElem_routes : (s.modElem e f).routes = s.routes := rfl
@[simp] theorem State.modElem_held : (s.modElem e f).held = s.held := rfl
@[simp] theorem State.modElem_settings : (s.modElem e f).settings = s.settings := rfl
@[simp] theorem State.modElem_engine : (s.modElem e f).engine = s.engine := rfl
@[simp] theorem State.modElem_guard : (s.modElem e f).guard = s.guard := rfl
@[simp] theorem State.modElem_supply : (s.modElem e f).supply = s.supply := rfl
@[simp] theorem State.modElem_seq : (s.modElem e f).seq = s.seq := rfl
@[simp] theorem State.modElem_timers : (s.modElem e f).timers = s.timers := rfl
@[simp] theorem State.modElem_link : (s.modElem e f).link = s.link := rfl
@[simp] theorem State.modElem_notices : (s.modElem e f).notices = s.notices := rfl
@[simp] theorem State.modElem_store : (s.modElem e f).store = s.store := rfl
end

section
variable (s : State) (r : Nat) (f : Route → Route)
@[simp] theorem State.modRoute_pending : (s.modRoute r f).pending = s.pending := rfl
@[simp] theorem State.modRoute_now : (s.modRoute r f).now = s.now := rfl
@[simp] theorem State.modRoute_life : (s.modRoute r f).life = s.life := rfl
@[simp] theorem State.modRoute_resetLine : (s.modRoute r f).resetLine = s.resetLine := rfl
@[simp] theorem State.modRoute_straps : (s.modRoute r f).straps = s.straps := rfl
@[simp] theorem State.modRoute_nodes : (s.modRoute r f).nodes = s.nodes := rfl
@[simp] theorem State.modRoute_elems : (s.modRoute r f).elems = s.elems := rfl
@[simp] theorem State.modRoute_senseLines : (s.modRoute r f).senseLines = s.senseLines := rfl
@[simp] theorem State.modRoute_routes : (s.modRoute r f).routes = tmod s.routes r f := rfl
@[simp] theorem State.modRoute_held : (s.modRoute r f).held = s.held := rfl
@[simp] theorem State.modRoute_settings : (s.modRoute r f).settings = s.settings := rfl
@[simp] theorem State.modRoute_engine : (s.modRoute r f).engine = s.engine := rfl
@[simp] theorem State.modRoute_guard : (s.modRoute r f).guard = s.guard := rfl
@[simp] theorem State.modRoute_supply : (s.modRoute r f).supply = s.supply := rfl
@[simp] theorem State.modRoute_seq : (s.modRoute r f).seq = s.seq := rfl
@[simp] theorem State.modRoute_timers : (s.modRoute r f).timers = s.timers := rfl
@[simp] theorem State.modRoute_link : (s.modRoute r f).link = s.link := rfl
@[simp] theorem State.modRoute_notices : (s.modRoute r f).notices = s.notices := rfl
@[simp] theorem State.modRoute_store : (s.modRoute r f).store = s.store := rfl
end

section
variable (s : State) (d : ElemDef) (v : SlotDrive)
@[simp] theorem State.setDrive_pending : (s.setDrive d v).pending = s.pending := rfl
@[simp] theorem State.setDrive_now : (s.setDrive d v).now = s.now := rfl
@[simp] theorem State.setDrive_life : (s.setDrive d v).life = s.life := rfl
@[simp] theorem State.setDrive_resetLine : (s.setDrive d v).resetLine = s.resetLine := rfl
@[simp] theorem State.setDrive_straps : (s.setDrive d v).straps = s.straps := rfl
@[simp] theorem State.setDrive_nodes : (s.setDrive d v).nodes = s.nodes := rfl
@[simp] theorem State.setDrive_elems : (s.setDrive d v).elems = s.elems := rfl
@[simp] theorem State.setDrive_senseLines : (s.setDrive d v).senseLines = s.senseLines := rfl
@[simp] theorem State.setDrive_routes : (s.setDrive d v).routes = s.routes := rfl
@[simp] theorem State.setDrive_held : (s.setDrive d v).held = s.held := rfl
@[simp] theorem State.setDrive_settings : (s.setDrive d v).settings = s.settings := rfl
@[simp] theorem State.setDrive_engine : (s.setDrive d v).engine = { s.engine with drive := s.engine.drive.set d.slotIndex v } := rfl
@[simp] theorem State.setDrive_guard : (s.setDrive d v).guard = s.guard := rfl
@[simp] theorem State.setDrive_supply : (s.setDrive d v).supply = s.supply := rfl
@[simp] theorem State.setDrive_seq : (s.setDrive d v).seq = s.seq := rfl
@[simp] theorem State.setDrive_timers : (s.setDrive d v).timers = s.timers := rfl
@[simp] theorem State.setDrive_link : (s.setDrive d v).link = s.link := rfl
@[simp] theorem State.setDrive_notices : (s.setDrive d v).notices = s.notices := rfl
@[simp] theorem State.setDrive_store : (s.setDrive d v).store = s.store := rfl
end

section
variable (s : State) (f : Flight)
@[simp] theorem State.setFlight_pending : (s.setFlight f).pending = s.pending := rfl
@[simp] theorem State.setFlight_now : (s.setFlight f).now = s.now := rfl
@[simp] theorem State.setFlight_life : (s.setFlight f).life = s.life := rfl
@[simp] theorem State.setFlight_resetLine : (s.setFlight f).resetLine = s.resetLine := rfl
@[simp] theorem State.setFlight_straps : (s.setFlight f).straps = s.straps := rfl
@[simp] theorem State.setFlight_nodes : (s.setFlight f).nodes = s.nodes := rfl
@[simp] theorem State.setFlight_elems : (s.setFlight f).elems = s.elems := rfl
@[simp] theorem State.setFlight_senseLines : (s.setFlight f).senseLines = s.senseLines := rfl
@[simp] theorem State.setFlight_routes : (s.setFlight f).routes = s.routes := rfl
@[simp] theorem State.setFlight_held : (s.setFlight f).held = s.held := rfl
@[simp] theorem State.setFlight_settings : (s.setFlight f).settings = s.settings := rfl
@[simp] theorem State.setFlight_engine : (s.setFlight f).engine = { s.engine with flight := some f } := rfl
@[simp] theorem State.setFlight_guard : (s.setFlight f).guard = s.guard := rfl
@[simp] theorem State.setFlight_supply : (s.setFlight f).supply = s.supply := rfl
@[simp] theorem State.setFlight_seq : (s.setFlight f).seq = s.seq := rfl
@[simp] theorem State.setFlight_timers : (s.setFlight f).timers = s.timers := rfl
@[simp] theorem State.setFlight_link : (s.setFlight f).link = s.link := rfl
@[simp] theorem State.setFlight_notices : (s.setFlight f).notices = s.notices := rfl
@[simp] theorem State.setFlight_store : (s.setFlight f).store = s.store := rfl
end

section
variable (s : State) (p : Plan)
@[simp] theorem State.placePlan_pending : (s.placePlan p).pending = s.pending := rfl
@[simp] theorem State.placePlan_now : (s.placePlan p).now = s.now := rfl
@[simp] theorem State.placePlan_life : (s.placePlan p).life = s.life := rfl
@[simp] theorem State.placePlan_resetLine : (s.placePlan p).resetLine = s.resetLine := rfl
@[simp] theorem State.placePlan_straps : (s.placePlan p).straps = s.straps := rfl
@[simp] theorem State.placePlan_nodes : (s.placePlan p).nodes = s.nodes := rfl
@[simp] theorem State.placePlan_elems : (s.placePlan p).elems = s.elems := rfl
@[simp] theorem State.placePlan_senseLines : (s.placePlan p).senseLines = s.senseLines := rfl
@[simp] theorem State.placePlan_routes : (s.placePlan p).routes = s.routes := rfl
@[simp] theorem State.placePlan_held : (s.placePlan p).held = s.held := rfl
@[simp] theorem State.placePlan_settings : (s.placePlan p).settings = s.settings := rfl
@[simp] theorem State.placePlan_engine : (s.placePlan p).engine = { s.engine with waiting := s.engine.waiting ++ [p], nextId := s.engine.nextId + 1 } := rfl
@[simp] theorem State.placePlan_guard : (s.placePlan p).guard = s.guard := rfl
@[simp] theorem State.placePlan_supply : (s.placePlan p).supply = s.supply := rfl
@[simp] theorem State.placePlan_seq : (s.placePlan p).seq = s.seq := rfl
@[simp] theorem State.placePlan_timers : (s.placePlan p).timers = s.timers := rfl
@[simp] theorem State.placePlan_link : (s.placePlan p).link = s.link := rfl
@[simp] theorem State.placePlan_notices : (s.placePlan p).notices = s.notices := rfl
@[simp] theorem State.placePlan_store : (s.placePlan p).store = s.store := rfl
end

section
variable (s : State) (r : Nat) (o : LinkOutcome)
@[simp] theorem State.dropRoute_pending : (s.dropRoute r o).pending = s.pending := rfl
@[simp] theorem State.dropRoute_now : (s.dropRoute r o).now = s.now := rfl
@[simp] theorem State.dropRoute_life : (s.dropRoute r o).life = s.life := rfl
@[simp] theorem State.dropRoute_resetLine : (s.dropRoute r o).resetLine = s.resetLine := rfl
@[simp] theorem State.dropRoute_straps : (s.dropRoute r o).straps = s.straps := rfl
@[simp] theorem State.dropRoute_nodes : (s.dropRoute r o).nodes = s.nodes := rfl
@[simp] theorem State.dropRoute_elems : (s.dropRoute r o).elems = s.elems := rfl
@[simp] theorem State.dropRoute_senseLines : (s.dropRoute r o).senseLines = s.senseLines := rfl
@[simp] theorem State.dropRoute_held : (s.dropRoute r o).held = s.held.filter (· ≠ r) := rfl
@[simp] theorem State.dropRoute_settings : (s.dropRoute r o).settings = s.settings := rfl
@[simp] theorem State.dropRoute_engine : (s.dropRoute r o).engine = s.engine := rfl
@[simp] theorem State.dropRoute_guard : (s.dropRoute r o).guard = s.guard := rfl
@[simp] theorem State.dropRoute_supply : (s.dropRoute r o).supply = s.supply := rfl
@[simp] theorem State.dropRoute_seq : (s.dropRoute r o).seq = s.seq := rfl
@[simp] theorem State.dropRoute_timers : (s.dropRoute r o).timers = s.timers := rfl
@[simp] theorem State.dropRoute_link : (s.dropRoute r o).link = s.link := rfl
@[simp] theorem State.dropRoute_notices : (s.dropRoute r o).notices = s.notices := rfl
@[simp] theorem State.dropRoute_store : (s.dropRoute r o).store = s.store := rfl
end

section
variable (s : State) (o : Fin 4) (d : OutDrive)
@[simp] theorem State.setOut_pending : (s.setOut o d).pending = s.pending := rfl
@[simp] theorem State.setOut_now : (s.setOut o d).now = s.now := rfl
@[simp] theorem State.setOut_life : (s.setOut o d).life = s.life := rfl
@[simp] theorem State.setOut_resetLine : (s.setOut o d).resetLine = s.resetLine := rfl
@[simp] theorem State.setOut_straps : (s.setOut o d).straps = s.straps := rfl
@[simp] theorem State.setOut_nodes : (s.setOut o d).nodes = s.nodes := rfl
@[simp] theorem State.setOut_elems : (s.setOut o d).elems = s.elems := rfl
@[simp] theorem State.setOut_senseLines : (s.setOut o d).senseLines = s.senseLines := rfl
@[simp] theorem State.setOut_routes : (s.setOut o d).routes = s.routes := rfl
@[simp] theorem State.setOut_held : (s.setOut o d).held = s.held := rfl
@[simp] theorem State.setOut_settings : (s.setOut o d).settings = s.settings := rfl
@[simp] theorem State.setOut_engine : (s.setOut o d).engine = s.engine := rfl
@[simp] theorem State.setOut_guard : (s.setOut o d).guard = s.guard := rfl
@[simp] theorem State.setOut_supply : (s.setOut o d).supply = s.supply := rfl
@[simp] theorem State.setOut_seq : (s.setOut o d).seq = s.seq := rfl
@[simp] theorem State.setOut_timers : (s.setOut o d).timers = { s.timers with outs := s.timers.outs.set o d } := rfl
@[simp] theorem State.setOut_link : (s.setOut o d).link = s.link := rfl
@[simp] theorem State.setOut_notices : (s.setOut o d).notices = s.notices := rfl
@[simp] theorem State.setOut_store : (s.setOut o d).store = s.store := rfl
end

section
variable (s : State) (i : Fin 4) (x : TrigIn)
@[simp] theorem State.setIn_pending : (s.setIn i x).pending = s.pending := rfl
@[simp] theorem State.setIn_now : (s.setIn i x).now = s.now := rfl
@[simp] theorem State.setIn_life : (s.setIn i x).life = s.life := rfl
@[simp] theorem State.setIn_resetLine : (s.setIn i x).resetLine = s.resetLine := rfl
@[simp] theorem State.setIn_straps : (s.setIn i x).straps = s.straps := rfl
@[simp] theorem State.setIn_nodes : (s.setIn i x).nodes = s.nodes := rfl
@[simp] theorem State.setIn_elems : (s.setIn i x).elems = s.elems := rfl
@[simp] theorem State.setIn_senseLines : (s.setIn i x).senseLines = s.senseLines := rfl
@[simp] theorem State.setIn_routes : (s.setIn i x).routes = s.routes := rfl
@[simp] theorem State.setIn_held : (s.setIn i x).held = s.held := rfl
@[simp] theorem State.setIn_settings : (s.setIn i x).settings = s.settings := rfl
@[simp] theorem State.setIn_engine : (s.setIn i x).engine = s.engine := rfl
@[simp] theorem State.setIn_guard : (s.setIn i x).guard = s.guard := rfl
@[simp] theorem State.setIn_supply : (s.setIn i x).supply = s.supply := rfl
@[simp] theorem State.setIn_seq : (s.setIn i x).seq = s.seq := rfl
@[simp] theorem State.setIn_timers : (s.setIn i x).timers = { s.timers with ins := s.timers.ins.set i x } := rfl
@[simp] theorem State.setIn_link : (s.setIn i x).link = s.link := rfl
@[simp] theorem State.setIn_notices : (s.setIn i x).notices = s.notices := rfl
@[simp] theorem State.setIn_store : (s.setIn i x).store = s.store := rfl
end

section
variable (s : State) (e : Micros)
@[simp] theorem State.stopWindow_pending : (s.stopWindow e).pending = s.pending := rfl
@[simp] theorem State.stopWindow_now : (s.stopWindow e).now = s.now := rfl
@[simp] theorem State.stopWindow_life : (s.stopWindow e).life = s.life := rfl
@[simp] theorem State.stopWindow_resetLine : (s.stopWindow e).resetLine = s.resetLine := rfl
@[simp] theorem State.stopWindow_straps : (s.stopWindow e).straps = s.straps := rfl
@[simp] theorem State.stopWindow_nodes : (s.stopWindow e).nodes = s.nodes := rfl
@[simp] theorem State.stopWindow_elems : (s.stopWindow e).elems = s.elems := rfl
@[simp] theorem State.stopWindow_senseLines : (s.stopWindow e).senseLines = s.senseLines := rfl
@[simp] theorem State.stopWindow_routes : (s.stopWindow e).routes = s.routes := rfl
@[simp] theorem State.stopWindow_held : (s.stopWindow e).held = s.held := rfl
@[simp] theorem State.stopWindow_settings : (s.stopWindow e).settings = s.settings := rfl
@[simp] theorem State.stopWindow_engine : (s.stopWindow e).engine = s.engine := rfl
@[simp] theorem State.stopWindow_guard : (s.stopWindow e).guard = s.guard := rfl
@[simp] theorem State.stopWindow_supply : (s.stopWindow e).supply = s.supply := rfl
@[simp] theorem State.stopWindow_seq : (s.stopWindow e).seq = s.seq := rfl
@[simp] theorem State.stopWindow_timers : (s.stopWindow e).timers = { s.timers with window := .stopped e } := rfl
@[simp] theorem State.stopWindow_link : (s.stopWindow e).link = s.link := rfl
@[simp] theorem State.stopWindow_notices : (s.stopWindow e).notices = s.notices := rfl
@[simp] theorem State.stopWindow_store : (s.stopWindow e).store = s.store := rfl
end

section
variable (s : State) (d : Micros)
@[simp] theorem State.loadDwell_pending : (s.loadDwell d).pending = s.pending := rfl
@[simp] theorem State.loadDwell_now : (s.loadDwell d).now = s.now := rfl
@[simp] theorem State.loadDwell_life : (s.loadDwell d).life = s.life := rfl
@[simp] theorem State.loadDwell_resetLine : (s.loadDwell d).resetLine = s.resetLine := rfl
@[simp] theorem State.loadDwell_straps : (s.loadDwell d).straps = s.straps := rfl
@[simp] theorem State.loadDwell_nodes : (s.loadDwell d).nodes = s.nodes := rfl
@[simp] theorem State.loadDwell_elems : (s.loadDwell d).elems = s.elems := rfl
@[simp] theorem State.loadDwell_senseLines : (s.loadDwell d).senseLines = s.senseLines := rfl
@[simp] theorem State.loadDwell_routes : (s.loadDwell d).routes = s.routes := rfl
@[simp] theorem State.loadDwell_held : (s.loadDwell d).held = s.held := rfl
@[simp] theorem State.loadDwell_settings : (s.loadDwell d).settings = s.settings := rfl
@[simp] theorem State.loadDwell_engine : (s.loadDwell d).engine = s.engine := rfl
@[simp] theorem State.loadDwell_guard : (s.loadDwell d).guard = s.guard := rfl
@[simp] theorem State.loadDwell_supply : (s.loadDwell d).supply = s.supply := rfl
@[simp] theorem State.loadDwell_seq : (s.loadDwell d).seq = s.seq := rfl
@[simp] theorem State.loadDwell_timers : (s.loadDwell d).timers = { s.timers with dwell := .running (s.now + d) } := rfl
@[simp] theorem State.loadDwell_link : (s.loadDwell d).link = s.link := rfl
@[simp] theorem State.loadDwell_notices : (s.loadDwell d).notices = s.notices := rfl
@[simp] theorem State.loadDwell_store : (s.loadDwell d).store = s.store := rfl
end

section
variable (s : State) 
@[simp] theorem State.returnIdle_pending : (s.returnIdle).pending = s.pending := rfl
@[simp] theorem State.returnIdle_now : (s.returnIdle).now = s.now := rfl
@[simp] theorem State.returnIdle_life : (s.returnIdle).life = s.life := rfl
@[simp] theorem State.returnIdle_resetLine : (s.returnIdle).resetLine = s.resetLine := rfl
@[simp] theorem State.returnIdle_straps : (s.returnIdle).straps = s.straps := rfl
@[simp] theorem State.returnIdle_nodes : (s.returnIdle).nodes = s.nodes := rfl
@[simp] theorem State.returnIdle_elems : (s.returnIdle).elems = s.elems := rfl
@[simp] theorem State.returnIdle_senseLines : (s.returnIdle).senseLines = s.senseLines := rfl
@[simp] theorem State.returnIdle_routes : (s.returnIdle).routes = s.routes := rfl
@[simp] theorem State.returnIdle_held : (s.returnIdle).held = s.held := rfl
@[simp] theorem State.returnIdle_settings : (s.returnIdle).settings = s.settings := rfl
@[simp] theorem State.returnIdle_engine : (s.returnIdle).engine = s.engine := rfl
@[simp] theorem State.returnIdle_guard : (s.returnIdle).guard = s.guard := rfl
@[simp] theorem State.returnIdle_supply : (s.returnIdle).supply = s.supply := rfl
@[simp] theorem State.returnIdle_seq : (s.returnIdle).seq = none := rfl
@[simp] theorem State.returnIdle_link : (s.returnIdle).link = s.link := rfl
@[simp] theorem State.returnIdle_notices : (s.returnIdle).notices = s.notices := rfl
@[simp] theorem State.returnIdle_store : (s.returnIdle).store = s.store := rfl
end

section
variable (s : State) 
@[simp] theorem State.endCut_pending : (s.endCut).pending = s.pending := rfl
@[simp] theorem State.endCut_now : (s.endCut).now = s.now := rfl
@[simp] theorem State.endCut_life : (s.endCut).life = s.life := rfl
@[simp] theorem State.endCut_resetLine : (s.endCut).resetLine = s.resetLine := rfl
@[simp] theorem State.endCut_straps : (s.endCut).straps = s.straps := rfl
@[simp] theorem State.endCut_nodes : (s.endCut).nodes = s.nodes := rfl
@[simp] theorem State.endCut_elems : (s.endCut).elems = s.elems := rfl
@[simp] theorem State.endCut_senseLines : (s.endCut).senseLines = s.senseLines := rfl
@[simp] theorem State.endCut_routes : (s.endCut).routes = s.routes := rfl
@[simp] theorem State.endCut_held : (s.endCut).held = s.held := rfl
@[simp] theorem State.endCut_settings : (s.endCut).settings = s.settings := rfl
@[simp] theorem State.endCut_engine : (s.endCut).engine = { s.engine with flight := none } := rfl
@[simp] theorem State.endCut_guard : (s.endCut).guard = { s.guard with planHold := false } := rfl
@[simp] theorem State.endCut_supply : (s.endCut).supply = s.supply := rfl
@[simp] theorem State.endCut_seq : (s.endCut).seq = s.seq := rfl
@[simp] theorem State.endCut_timers : (s.endCut).timers = s.timers := rfl
@[simp] theorem State.endCut_link : (s.endCut).link = s.link := rfl
@[simp] theorem State.endCut_notices : (s.endCut).notices = s.notices := rfl
@[simp] theorem State.endCut_store : (s.endCut).store = s.store := rfl
end

/-- A reply touches the Reply Queue alone. -/
theorem State.reply_addressed (s : State) (r : Reply) :
    s.reply .addressed r = { s with link := { s.link with replies := s.link.replies ++ [r] } } := rfl

@[simp] theorem State.reply_broadcast (s : State) (r : Reply) : s.reply .broadcast r = s := rfl

/-- Writing an input without changing its end of qualification or level: reading it back gives what was written. -/
theorem State.setIn_self (s : State) (i : Fin 4) (x : TrigIn) : (s.setIn i x).timers.ins[i] = x := by
  simp [State.setIn]

theorem State.setOut_self (s : State) (o : Fin 4) (d : OutDrive) : (s.setOut o d).timers.outs[o] = d := by
  simp [State.setOut]

end Sys2Proof.Machine
end

