-- ==== Sys2Proof/Laws/Table.lean ====
section
/-! SUPPORT. Laws of tables: reading after writing, and that every operation keeps the canonical form. -/

namespace Sys2Proof.Machine

variable {α β : Type}

/-- A record read is a record listed. -/
theorem tget_mem {t : Table α} {k : Nat} {x : α} (h : tget t k = some x) : (k, x) ∈ t := by
  induction t with
  | nil => cases h
  | cons kv t ih =>
    obtain ⟨j, y⟩ := kv
    simp only [tget] at h
    split at h
    · rename_i e; cases h; subst e; exact List.mem_cons_self ..
    · exact List.mem_cons_of_mem _ (ih h)

theorem tget_tset_self (t : Table α) (j : Nat) (x : α) : tget (tset t j x) j = some x := by
  induction t with
  | nil => simp [tset, tget]
  | cons kv t ih =>
    obtain ⟨k, v⟩ := kv
    unfold tset
    split
    · simp [tget]
    · split
      · simp [tget]
      · rename_i h1 h2
        have : k ≠ j := fun h => h2 h.symm
        simp [tget, this, ih]

theorem tget_tset_other (t : Table α) {i j : Nat} (x : α) (h : i ≠ j) : tget (tset t j x) i = tget t i := by
  induction t with
  | nil => simp [tset, tget, Ne.symm h]
  | cons kv t ih =>
    obtain ⟨k, v⟩ := kv
    unfold tset
    split
    · simp [tget, Ne.symm h]
    · split
      · rename_i h1 h2
        subst h2
        simp [tget, Ne.symm h]
      · by_cases hk : k = i <;> simp [tget, hk, ih]

theorem tget_tdel_self (t : Table α) (j : Nat) : tget (tdel t j) j = none := by
  induction t with
  | nil => rfl
  | cons kv t ih =>
    obtain ⟨k, v⟩ := kv
    by_cases hk : k = j
    · subst hk; simpa [tdel, tget] using ih
    · simpa [tdel, tget, hk] using ih

theorem tget_tdel_other (t : Table α) {i j : Nat} (h : i ≠ j) : tget (tdel t j) i = tget t i := by
  induction t with
  | nil => rfl
  | cons kv t ih =>
    obtain ⟨k, v⟩ := kv
    by_cases hk : k = j
    · subst hk; simpa [tdel, tget, Ne.symm h] using ih
    · by_cases hi : k = i
      · subst hi; simp [tdel, tget, hk]
      · simpa [tdel, tget, hk, hi] using ih

theorem tget_tmod (t : Table α) (i j : Nat) (f : α → α) :
    tget (tmod t j f) i = if i = j then (tget t i).map f else tget t i := by
  induction t with
  | nil => simp [tmod, tget]
  | cons kv t ih =>
    obtain ⟨k, v⟩ := kv
    simp only [tmod, List.map_cons] at ih ⊢
    by_cases hk : k = j
    · subst hk
      by_cases hi : k = i
      · subst hi; simp [tget]
      · have hi' : ¬ i = k := fun h => hi h.symm
        simpa [tget, hi, hi'] using ih
    · by_cases hi : k = i
      · subst hi; simp [tget, hk]
      · simpa [tget, hk, hi] using ih

/-- The keys of a table. -/
theorem tmod_keys (t : Table α) (j : Nat) (f : α → α) : (tmod t j f).map (·.1) = t.map (·.1) := by
  induction t with
  | nil => rfl
  | cons kv t ih =>
    simp only [tmod, List.map_cons] at ih ⊢
    rw [ih]
    split <;> simp

/-- A table is canonical exactly when its keys are strictly rising. -/
theorem tsorted_iff_keys (t : Table α) : tsorted t ↔ (t.map (·.1)).Pairwise (· < ·) := by
  simp [tsorted, List.pairwise_map]

theorem tsorted_tmod {t : Table α} (h : tsorted t) (j : Nat) (f : α → α) : tsorted (tmod t j f) := by
  rw [tsorted_iff_keys, tmod_keys, ← tsorted_iff_keys]; exact h

theorem tsorted_tdel {t : Table α} (h : tsorted t) (j : Nat) : tsorted (tdel t j) := h.filter _

/-- A map over the records keeps the keys and so the form. -/
theorem tsorted_map {t : Table α} (h : tsorted t) (f : Nat × α → β) :
    tsorted (t.map (fun kv => (kv.1, f kv))) := by
  rw [tsorted_iff_keys, List.map_map]
  exact (tsorted_iff_keys t).1 h

/-- Every key of a table after a write is an old key or the key written. -/
theorem mem_tset_key {t : Table α} {j : Nat} {x : α} {kv : Nat × α} (h : kv ∈ tset t j x) : kv.1 = j ∨ kv ∈ t := by
  induction t with
  | nil => simp [tset] at h; exact .inl (by simp [h])
  | cons b t ih =>
    obtain ⟨k, v⟩ := b
    unfold tset at h
    split at h
    · rcases List.mem_cons.1 h with h | h
      · exact .inl (by simp [h])
      · exact .inr h
    · split at h
      · rcases List.mem_cons.1 h with h | h
        · exact .inl (by simp [h])
        · exact .inr (List.mem_cons_of_mem _ h)
      · rcases List.mem_cons.1 h with h | h
        · exact .inr (by simp [h])
        · rcases ih h with h | h
          · exact .inl h
          · exact .inr (List.mem_cons_of_mem _ h)

theorem tsorted_tset {t : Table α} (h : tsorted t) (j : Nat) (x : α) : tsorted (tset t j x) := by
  induction t with
  | nil => simp [tset, tsorted]
  | cons b t ih =>
    obtain ⟨k, v⟩ := b
    have hc := List.pairwise_cons.1 h
    unfold tset
    split
    · rename_i hj
      refine List.pairwise_cons.2 ⟨?_, h⟩
      intro kv hkv
      rcases List.mem_cons.1 hkv with rfl | hkv
      · exact hj
      · exact Nat.lt_trans hj (hc.1 kv hkv)
    · split
      · rename_i _ hj
        subst hj
        exact List.pairwise_cons.2 ⟨hc.1, hc.2⟩
      · rename_i h1 h2
        refine List.pairwise_cons.2 ⟨?_, ih hc.2⟩
        intro kv hkv
        rcases mem_tset_key hkv with hk | hk
        · show k < kv.1
          omega
        · exact hc.1 kv hk

end Sys2Proof.Machine
end

