-- ==== Sys2Proof/Laws/Frame.lean ====
section
/-! SUPPORT. What the engine, the sequencer and the chain of instants leave alone: every operation of chapters 1 to 8 that runs
without a command keeps the frame below. -/

namespace Sys2Proof.Machine

variable (s : State)

/-- A fold of steps that each keep the frame keeps it. -/
theorem foldl_kept {α : Type} (f : State → α → State) (h : ∀ s a, (f s a).kept = s.kept) (l : List α) (s : State) :
    (l.foldl f s).kept = s.kept := by
  induction l generalizing s with
  | nil => rfl
  | cons a l ih => rw [List.foldl_cons, ih, h]

@[simp] theorem notify_kept (k : NoticeKind) (a b : Val) : (s.notify k a b).kept = s.kept := rfl
@[simp] theorem markWear_kept : s.markWear.kept = s.kept := rfl
/-- A change of records that keeps what a map reads of them keeps the map's table. -/
theorem map_tmod {α β : Type} (g : Nat × α → β) (t : Table α) (j : Nat) (f : α → α)
    (h : ∀ k x, g (k, f x) = g (k, x)) : (tmod t j f).map g = t.map g := by
  unfold tmod
  rw [List.map_map]
  refine List.map_congr_left (fun kv _ => ?_)
  show g (if kv.1 = j then (kv.1, f kv.2) else kv) = g kv
  split
  · exact h _ _
  · rfl

/-! What each change of an element record leaves of its definition and losses. -/

@[simp] theorem arrive_d (p : Nat) (r : Option Reading) (x : Element) : (arrive p r x).d = x.d := rfl
@[simp] theorem arrive_losses (p : Nat) (r : Option Reading) (x : Element) : (arrive p r x).losses = x.losses := rfl
@[simp] theorem enterFault_d (r : Reading) (x : Element) : (enterFault r x).d = x.d := rfl
@[simp] theorem enterFault_losses (r : Reading) (x : Element) : (enterFault r x).losses = x.losses := rfl
@[simp] theorem startMoving_d (p : Nat) (x : Element) : (startMoving p x).d = x.d := rfl
@[simp] theorem startMoving_losses (p : Nat) (x : Element) : (startMoving p x).losses = x.losses := rfl
@[simp] theorem withdrawUnpulsed_d (r : Option Reading) (x : Element) : (withdrawUnpulsed r x).d = x.d := by
  unfold withdrawUnpulsed; split <;> rfl
@[simp] theorem withdrawUnpulsed_losses (r : Option Reading) (x : Element) : (withdrawUnpulsed r x).losses = x.losses := by
  unfold withdrawUnpulsed; split <;> rfl
@[simp] theorem withdrawPulsed_d (r : Option Reading) (x : Element) : (withdrawPulsed r x).d = x.d := by
  unfold withdrawPulsed; split <;> rfl
@[simp] theorem withdrawPulsed_losses (r : Option Reading) (x : Element) : (withdrawPulsed r x).losses = x.losses := by
  unfold withdrawPulsed; split <;> rfl

@[simp] theorem modElem_kept (e : Nat) (f : Element → Element) (hf : ∀ x, (f x).d = x.d ∧ (f x).losses = x.losses) :
    (s.modElem e f).kept = s.kept := by
  have h := map_tmod (fun kv : Nat × Element => (kv.1, kv.2.d, kv.2.losses)) s.elems e f (fun k x => by simp [hf x])
  simp [State.kept, h]
@[simp] theorem modRoute_kept (r : Nat) (f : Route → Route)
    (hf : ∀ x, (f x).d = x.d ∧ (f x).nodes = x.nodes ∧ (f x).conns = x.conns) : (s.modRoute r f).kept = s.kept := by
  have h := map_tmod (fun kv : Nat × Route => (kv.1, kv.2.d, kv.2.nodes, kv.2.conns)) s.routes r f
    (fun k x => by simp [hf x])
  simp [State.kept, h]
@[simp] theorem setDrive_kept (d : ElemDef) (v : SlotDrive) : (s.setDrive d v).kept = s.kept := rfl
@[simp] theorem setFlight_kept (f : Flight) : (s.setFlight f).kept = s.kept := rfl
@[simp] theorem placePlan_kept (p : Plan) : (s.placePlan p).kept = s.kept := rfl
@[simp] theorem setOut_kept (o : Fin 4) (d : OutDrive) : (s.setOut o d).kept = s.kept := rfl
@[simp] theorem stopWindow_kept (e : Micros) : (s.stopWindow e).kept = s.kept := rfl
@[simp] theorem loadDwell_kept (d : Micros) : (s.loadDwell d).kept = s.kept := rfl
@[simp] theorem returnIdle_kept : s.returnIdle.kept = s.kept := rfl
@[simp] theorem freezeOuts_kept : s.freezeOuts.kept = s.kept := rfl
@[simp] theorem thawOuts_kept : s.thawOuts.kept = s.kept := rfl
@[simp] theorem endCut_kept : s.endCut.kept = s.kept := rfl
@[simp] theorem firePulse_kept (o : Fin 4) : (s.firePulse o).kept = s.kept := rfl
@[simp] theorem startPace_kept : s.startPace.kept = s.kept := rfl
@[simp] theorem enterSwitching_kept (r : Run) : (s.enterSwitching r).kept = s.kept := rfl
@[simp] theorem enterHalted_kept (r : Run) (p : ResumePoint) (c : String) : (s.enterHalted r p c).kept = s.kept := rfl
@[simp] theorem freezeDwell_kept : ({ s with timers := { s.timers with dwell := .frozen s.dwellRemaining } } : State).kept = s.kept := rfl

@[simp] theorem modFlight_kept (g : Flight → Flight) : (s.modFlight g).kept = s.kept := by
  unfold State.modFlight; split <;> simp

@[simp] theorem dropRoute_kept (r : Nat) (o : LinkOutcome) : (s.dropRoute r o).kept = s.kept := by
  have h := modRoute_kept s r (fun x => { x with st := .idle, outcome := some o, mark := none }) (fun _ => ⟨rfl, rfl, rfl⟩)
  exact h

@[simp] theorem lifeTest_kept (e : Nat) : (s.lifeTest e).kept = s.kept := by
  unfold State.lifeTest; split
  · split <;> simp
  · rfl

@[simp] theorem countPulse_kept (e : Nat) : (s.countPulse e).kept = s.kept := by
  unfold State.countPulse; split
  · split <;> simp
  · rfl

@[simp] theorem countHot_kept (e : Nat) : (s.countHot e).kept = s.kept := by
  unfold State.countHot; split
  · split <;> simp
  · rfl

@[simp] theorem markRoutes_kept (id : Nat) (rs : List (Nat × MarkKind)) : (s.markRoutes id rs).kept = s.kept :=
  
  foldl_kept (fun (t : State) (rk : Nat × MarkKind) => t.modRoute rk.1 (fun x => { x with mark := some ⟨rk.2, id⟩ }))
    (fun t rk => modRoute_kept t rk.1 _ (fun _ => ⟨rfl, rfl, rfl⟩)) rs s

@[simp] theorem breakRoute_kept (c : Cause) (r : Nat) : (State.breakRoute c s r).kept = s.kept := by
  simp [State.breakRoute]

@[simp] theorem breakClaims_kept (c : Cause) (e : Nat) : (s.breakClaims c e).kept = s.kept :=
  foldl_kept _ (fun _ _ => breakRoute_kept _ _ _) _ s

@[simp] theorem outReady_kept (n : Nat) (st : StepRec) : (s.outReady n st).kept = s.kept := by
  unfold State.outReady; split
  · rfl
  · split
    · rfl
    · split <;> rfl

@[simp] theorem outEnd_kept (n : Nat) (st : StepRec) : (s.outEnd n st).kept = s.kept := by
  unfold State.outEnd; split
  · split <;> rfl
  · rfl

@[simp] theorem testEvent_kept (r : Run) : (s.testEvent r).kept = s.kept := by
  unfold State.testEvent; split <;> rfl

@[simp] theorem enterWaiting_kept (r : Run) : (s.enterWaiting r).kept = s.kept := by
  unfold State.enterWaiting
  dsimp only
  split
  · split
    · rw [testEvent_kept]; rfl
    · rfl
  · rfl

@[simp] theorem makeCurrent_kept (r : Run) : (s.makeCurrent r).kept = s.kept := by
  unfold State.makeCurrent; split <;> simp

@[simp] theorem advanceEvent_kept (src : Source) : (s.advanceEvent src).kept = s.kept := by
  unfold State.advanceEvent
  split
  · rfl
  · split
    · split
      · split <;> simp
      · rfl
      · split
        · split <;> rfl
        · rfl
    · rfl

@[simp] theorem stepEnd_kept (r : Run) : (s.stepEnd r).kept = s.kept := by
  unfold State.stepEnd
  dsimp only
  have h : ∀ t : State, ({ t with timers := { t.timers with dwell := .stopped } } : State).kept = t.kept := fun _ => rfl
  split
  · simp [h]
  · split
    · simp [h]
    · split <;> simp [h]

@[simp] theorem beginDwell_kept (r : Run) : (s.beginDwell r).kept = s.kept := by
  unfold State.beginDwell
  dsimp only
  split
  · simp
  · rfl

@[simp] theorem stepPlanReady_kept (fail : Option Cause) : (s.stepPlanReady fail).kept = s.kept := by
  unfold State.stepPlanReady
  split
  · split
    · split
      · simp
      · split
        · simp
        · dsimp only
          split <;> split <;> simp
    · rfl
  · rfl

@[simp] theorem endRun_kept (c : String) : (s.endRun c).kept = s.kept := by
  unfold State.endRun; split <;> simp

@[simp] theorem applyRelease_kept (id : Nat) (rk : Nat × MarkKind) : (applyRelease id s rk).kept = s.kept := by
  unfold applyRelease
  split
  · split
    · split
      · split <;> simp
      · simp
    · rfl
  · rfl

@[simp] theorem releasePhase_kept (p : Plan) : (s.releasePhase p).kept = s.kept := by
  unfold State.releasePhase
  dsimp only
  rw [foldl_kept _ (fun t rk => applyRelease_kept t p.id rk)]
  split
  · split <;> simp
  · rfl

@[simp] theorem driveElem_kept (e : Nat) (v : Tech → SlotDrive) : (s.driveElem e v).kept = s.kept := by
  unfold State.driveElem; split <;> simp

@[simp] theorem pulseMember_kept (b : Bool) (m : Move) : (pulseMember b s m).kept = s.kept := by
  simp [pulseMember]

@[simp] theorem runWave_kept (b : Fin 8) (r : Bool) (ms : List Move) : (s.runWave b r ms).kept = s.kept := by
  simp [State.runWave, foldl_kept _ (fun t m => pulseMember_kept t r m)]

@[simp] theorem startWave_kept (b : Fin 8) : (s.startWave b).kept = s.kept := by
  unfold State.startWave; split <;> simp

@[simp] theorem startRetry_kept (b : Fin 8) : (s.startRetry b).kept = s.kept := by
  unfold State.startRetry; split
  · split <;> simp
  · rfl

@[simp] theorem startBank_kept (b : Fin 8) : (startBank s b).kept = s.kept := by
  unfold startBank; split
  · split <;> simp
  · split
    · split <;> simp
    · rfl

@[simp] theorem startBanks_kept : s.startBanks.kept = s.kept := foldl_kept _ startBank_kept _ s

@[simp] theorem chargeExposed_kept : s.chargeExposed.kept = s.kept := by
  unfold State.chargeExposed; split
  · simp [foldl_kept _ (fun (t : State) (m : Move) => countHot_kept t m.elem)]
  · rfl

@[simp] theorem hotEvent_kept (n : Nat) (c : String) : (s.hotEvent n c).kept = s.kept := by
  unfold State.hotEvent; split
  · dsimp only; rw [chargeExposed_kept]; split <;> simp
  · rfl

@[simp] theorem rfAppeared_kept (d : Fin 8) : (s.rfAppeared d).kept = s.kept := by
  unfold State.rfAppeared; split
  · split
    · split <;> simp
    · rfl
  · rfl

@[simp] theorem quietFell_kept : s.quietFell.kept = s.kept := by
  unfold State.quietFell; split
  · split
    · split <;> simp
    · rfl
  · rfl

@[simp] theorem resolve_kept (e : Nat) : (s.resolve e).kept = s.kept := by simp [State.resolve]

@[simp] theorem verify_kept (e t : Nat) (r : Bool) : (s.verify e t r).kept = s.kept := by
  unfold State.verify; split
  · simp
  · split
    · simp
    · dsimp only; split
      · simp
      · split <;> simp

@[simp] theorem verifyReadyNow_kept (es : List Nat) : (s.verifyReadyNow es).kept = s.kept := by
  refine foldl_kept _ (fun t e => ?_) es s
  split
  · split
    · split
      · split <;> simp
      · rfl
    · rfl
  · rfl

@[simp] theorem driveSs_kept (m : Move) : (driveSs s m).kept = s.kept := by
  unfold driveSs; split <;> simp

@[simp] theorem enterMove_kept : s.enterMove.kept = s.kept := by
  unfold State.enterMove; split
  · rfl
  · dsimp only
    rw [verifyReadyNow_kept]
    have hot : ∀ (l : List (Fin 8 × Nat)) (t : State),
        (l.foldl (fun t dn => t.hotEvent dn.2 "RF") t).kept = t.kept :=
      fun l t => foldl_kept (fun (t : State) (dn : Fin 8 × Nat) => t.hotEvent dn.2 "RF") (fun t dn => hotEvent_kept t dn.2 "RF") l t
    have mv : ∀ (l : List Move) (t : State),
        (l.foldl (fun t m => t.modElem m.elem (startMoving m.target)) t).kept = t.kept :=
      fun l t => foldl_kept (fun (t : State) (m : Move) => t.modElem m.elem (startMoving m.target)) (fun t m => modElem_kept t m.elem _ (fun _ => ⟨rfl, rfl⟩)) l t
    split <;> simp [hot, mv, foldl_kept _ driveSs_kept]

@[simp] theorem enterGuard_kept (f : Flight) : (s.enterGuard f).kept = s.kept := rfl

@[simp] theorem startPlan_kept : s.startPlan.kept = s.kept := by
  unfold State.startPlan; split
  · rfl
  · rename_i p ps _
    have h : ∀ t : State, ({ t with engine := { t.engine with waiting := ps } } : State).kept = t.kept := fun _ => rfl
    have g : ∀ t : State, ({ t with guard := { t.guard with carry := false } } : State).kept = t.kept := fun _ => rfl
    dsimp only
    split
    · simp [h]
    · split
      · refine (enterMove_kept _).trans ((g _).trans ((setFlight_kept _ _).trans ((releasePhase_kept _ _).trans (h s))))
      · exact (enterGuard_kept _ _).trans ((releasePhase_kept _ _).trans (h s))

@[simp] theorem applyOutcome_kept (o : PlanOp) (c : Option Cause) : (s.applyOutcome o c).kept = s.kept := by
  have h : ∀ (t : State) (l : List Nat), ({ t with held := l } : State).kept = t.kept := fun _ _ => rfl
  unfold State.applyOutcome; split
  · rfl
  · split
    · rfl
    · split
      · split <;> simp
      · split
        · split
          · rw [h]; simp
          · simp
        · rfl

@[simp] theorem opNotice_kept (f : Flight) (o : PlanOp) (c : Option Cause) : (s.opNotice f o c).kept = s.kept := by
  unfold State.opNotice; split
  · simp
  · split <;> simp

@[simp] theorem reportOps_kept (f : Flight) : (s.reportOps f).kept = s.kept :=
  foldl_kept _ (fun _ _ => by simp) _ s

@[simp] theorem reportPlan_kept (f : Flight) : (s.reportPlan f).kept = s.kept := by
  unfold State.reportPlan; split
  · split <;> simp
  · simp
  · rfl

@[simp] theorem planReady_kept (f : Flight) : (s.planReady f).kept = s.kept := by
  have h : ∀ (t : State) (g : GuardUnit), ({ t with engine := { t.engine with flight := none }, guard := g } : State).kept
      = t.kept := fun _ _ => rfl
  unfold State.planReady; dsimp only
  split <;> simp [h]

@[simp] theorem withdrawMove_kept (m : Move) : (withdrawMove s m).kept = s.kept := by
  unfold withdrawMove; split
  · simp
  · split <;> try simp
    split <;> simp

@[simp] theorem cutFlight_kept : s.cutFlight.kept = s.kept := by
  unfold State.cutFlight; split
  · rfl
  · split
    · rfl
    · dsimp only
      split
      · rw [foldl_kept _ withdrawMove_kept]
        simp [foldl_kept _ (fun (t : State) (r : Nat) => dropRoute_kept t r .aborted)]
      · simp [foldl_kept _ (fun (t : State) (r : Nat) => dropRoute_kept t r .aborted)]

@[simp] theorem endMember_kept (b : Fin 8) (m : Move) : (endMember b s m).kept = s.kept := by
  unfold endMember; split
  · split
    · dsimp only
      split
      · split <;> simp
      · simp
    · rfl
  · rfl

@[simp] theorem endWave_kept (b : Fin 8) : (s.endWave b).kept = s.kept := by
  unfold State.endWave; split
  · rfl
  · simp [foldl_kept _ (endMember_kept · b ·)]

@[simp] theorem withdrawAll_kept (p : Plan) : (withdrawAll s p).kept = s.kept := by
  unfold withdrawAll; dsimp only
  exact (foldl_kept (fun (t : State) (rk : Nat × MarkKind) => t.modRoute rk.1 (fun x => { x with mark := none }))
    (fun t rk => modRoute_kept t rk.1 _ (fun _ => ⟨rfl, rfl, rfl⟩)) _ _).trans
    (foldl_kept _ (fun (t : State) (r : Nat) => dropRoute_kept t r .aborted) _ s)

@[simp] theorem makeSafe_kept : s.makeSafe.kept = s.kept := by
  have h : ∀ (t : State), ({ t with engine := { t.engine with waiting := [] } } : State).kept = t.kept := fun _ => rfl
  have g : ∀ (t : State) (x : GuardUnit), ({ t with guard := x } : State).kept = t.kept := fun _ _ => rfl
  unfold State.makeSafe; dsimp only
  rw [placePlan_kept, foldl_kept _ (fun t r => breakRoute_kept t .safe r), cutFlight_kept, h,
    foldl_kept _ withdrawAll_kept, endRun_kept, g]

@[simp] theorem submissionFails_kept (r : Run) (p : Nat) (d : Val) : (s.submissionFails r p d).kept = s.kept := by
  simp [State.submissionFails]

@[simp] theorem submitPlan_kept (r : Run) (due : Option Due) (ms : List (Nat × MarkKind)) (st : StepRec) :
    (s.submitPlan r due ms st).kept = s.kept := by
  have h : ∀ (t : State) (x : Option Run), ({ t with seq := x } : State).kept = t.kept := fun _ _ => rfl
  unfold State.submitPlan; dsimp only
  rw [h, placePlan_kept, 
    foldl_kept (fun (t : State) (o : StepOp) => t.modRoute o.route (fun x => { x with st := .pending }))
      (fun t o => modRoute_kept t o.route _ (fun _ => ⟨rfl, rfl, rfl⟩)), markRoutes_kept]

@[simp] theorem submitStep_kept (r : Run) (due : Option Due) : (s.submitStep r due).kept = s.kept := by
  unfold State.submitStep; dsimp only
  split
  · simp
  · split <;> simp

/-- No instant touches the frame. -/
theorem instant_kept {s t : State} (h : s.instant = some t) : t.kept = s.kept := by
  have hc : ∀ (u : State), ({ u with guard := { u.guard with carry := false } } : State).kept = u.kept := fun _ => rfl
  unfold State.instant at h
  split at h
  · unfold State.flightInstant at h
    split at h
    · cases h; simp
    · split at h <;> cases h; simp
    · split at h <;> cases h; simp
    · split at h <;> cases h; simp
    · cases h
  · split at h
    · cases h; simp
    · split at h
      · cases h; simp
      · split at h <;> cases h; exact hc s

/-- The chain that follows a command touches nothing of the frame (R51, R147). -/
@[simp] theorem settled_kept : s.settled.kept = s.kept :=
  settled_induct (fun t => t.kept = s.kept) (fun _ _ hp hi => (instant_kept hi).trans hp) rfl

end Sys2Proof.Machine
end

