-- ==== Sys2Proof/WellFormed.lean ====
section
/-! DEFINITION. Which commands the outside can send: the bounds their rows set on operands that are not typed. -/

namespace Sys2Proof

/-- The most arguments a record of 96 characters can hold (9.2): after `@aa `, two letters and a space, 88 characters remain
before the CR. -/
def maxArgs : Nat := 44

/-- A record's argument list fits in a record. -/
def argsFit (args : List Arg) : Bool := args.length ≤ maxArgs

/-- The argument list of a command, empty for a row that has none. -/
def Instr.args : Instr → List Arg
  | .node a | .nodeQuery a | .elem a | .elemQuery a | .posn a | .path a | .pathQuery a | .pdel a | .link a | .unlink a
  | .heldQuery a | .pulse a | .pulseQuery a | .setl a | .setlQuery a | .bank a | .bankQuery a | .planQuery _ a | .guard a
  | .rfth a | .mute a | .muteQuery a | .senseQuery a | .supplyQuery a | .wearLim a | .wearClr a | .wearQuery a | .freq a
  | .freqQuery a | .lossE a | .lossN a | .lossQuery _ a | .step a | .stepQuery a | .sdel a | .list a | .listQuery a
  | .ldel a | .arm a | .halt _ a | .resume a | .abort a | .seqQuery a | .trin a | .trinQuery a | .trout a | .troutQuery a
  | .pace a | .paceQuery a | .snap a | .snapQuery a | .noteQuery a | .attn a | .statQuery a | .identQuery a | .save a
  | .load a | .storeQuery a => a
  | _ => []

/-- A command is well formed when its arguments fit a record, its keyword is one the syntax line shows, its element number
is E0..E63, `UNLINK` with the one argument `ALL` is the row `UNLINK ALL`, and a character event is no carriage return (that is
the row RECORD_RECEIVED). -/
def wellFormed (i : Instr) : Bool :=
  argsFit i.args &&
    match i with
    | .planQuery kw _ => kw = .link ∨ kw = .step
    | .lossQuery (some kw) _ => kw = .e ∨ kw = .n
    | .unlink args => args ≠ [.one (.word .all)]
    | .elementReady e => e < 64
    | .readingCounted e => e < 64
    | .commandPairCharacter c framing => c ≠ 13#8 ∨ framing
    | _ => true

end Sys2Proof
end

