-- ==== Sys2Proof/Laws/PerInstr.lean ====
section
/-! SUPPORT. Statements made per instruction: the family `Form`, about a command as syntax. -/

namespace Sys2Proof.Laws

/-- What the form of a command tells: arguments are carried by records only, a query that only reads is an addressed record, a
broadcast is a record that is no such query, and a well-formed command's arguments fit a record. -/
def Form.Statement (i : Instr) : Prop :=
  (i.args ≠ [] → i.isRecord = true) ∧ (i.isPureQuery = true → i.isRecord = true ∧ i.via = .addressed) ∧
    (i.via = .broadcast → i.isRecord = true ∧ i.isPureQuery = false) ∧ (wellFormed i = true → i.args.length ≤ maxArgs)

theorem Form.fits {i : Instr} (h : wellFormed i = true) : i.args.length ≤ maxArgs := by
  simpa [argsFit] using (Bool.and_eq_true_iff.1 h).1

/-- A row for an addressed record. -/
theorem Form.ofAddressed {i : Instr} (hr : i.isRecord = true) (hv : i.via = .addressed) : Form.Statement i :=
  ⟨fun _ => hr, fun _ => ⟨hr, hv⟩, fun h => by simp [hv] at h, Form.fits⟩

/-- A row for a record that may be broadcast. -/
theorem Form.ofEither {i : Instr} (hr : i.isRecord = true) (hq : i.isPureQuery = false) : Form.Statement i :=
  ⟨fun _ => hr, fun h => by simp [hq] at h, fun _ => ⟨hr, hq⟩, Form.fits⟩

/-- A row for an event. -/
theorem Form.ofEvent {i : Instr} (ha : i.args = []) (hq : i.isPureQuery = false) (hv : i.via = .addressed) :
    Form.Statement i :=
  ⟨fun h => absurd ha h, fun h => by simp [hq] at h, fun h => by simp [hv] at h, Form.fits⟩

theorem Form.recordReceived : Form.Statement .recordReceived := Form.ofEvent rfl rfl rfl
theorem Form.linkBreak : Form.Statement .linkBreak := Form.ofEvent rfl rfl rfl
theorem Form.badRecord : Form.Statement .badRecord := Form.ofAddressed rfl rfl
theorem Form.replyTransmitStart : Form.Statement .replyTransmitStart := Form.ofEvent rfl rfl rfl
theorem Form.replySent : Form.Statement .replySent := Form.ofEvent rfl rfl rfl
theorem Form.node (args : List Arg) : Form.Statement (.node args) := Form.ofAddressed rfl rfl
theorem Form.nodeQuery (args : List Arg) : Form.Statement (.nodeQuery args) := Form.ofAddressed rfl rfl
theorem Form.elem (args : List Arg) : Form.Statement (.elem args) := Form.ofAddressed rfl rfl
theorem Form.elemQuery (args : List Arg) : Form.Statement (.elemQuery args) := Form.ofAddressed rfl rfl
theorem Form.posn (args : List Arg) : Form.Statement (.posn args) := Form.ofAddressed rfl rfl
theorem Form.path (args : List Arg) : Form.Statement (.path args) := Form.ofAddressed rfl rfl
theorem Form.pathQuery (args : List Arg) : Form.Statement (.pathQuery args) := Form.ofAddressed rfl rfl
theorem Form.pdel (args : List Arg) : Form.Statement (.pdel args) := Form.ofAddressed rfl rfl
theorem Form.link (args : List Arg) : Form.Statement (.link args) := Form.ofAddressed rfl rfl
theorem Form.unlink (args : List Arg) : Form.Statement (.unlink args) := Form.ofAddressed rfl rfl
theorem Form.unlinkAll : Form.Statement .unlinkAll := Form.ofAddressed rfl rfl
theorem Form.heldQuery (args : List Arg) : Form.Statement (.heldQuery args) := Form.ofAddressed rfl rfl
theorem Form.safe (via : Via) : Form.Statement (.safe via) := Form.ofEither rfl rfl
theorem Form.pulse (args : List Arg) : Form.Statement (.pulse args) := Form.ofAddressed rfl rfl
theorem Form.pulseQuery (args : List Arg) : Form.Statement (.pulseQuery args) := Form.ofAddressed rfl rfl
theorem Form.setl (args : List Arg) : Form.Statement (.setl args) := Form.ofAddressed rfl rfl
theorem Form.setlQuery (args : List Arg) : Form.Statement (.setlQuery args) := Form.ofAddressed rfl rfl
theorem Form.bank (args : List Arg) : Form.Statement (.bank args) := Form.ofAddressed rfl rfl
theorem Form.bankQuery (args : List Arg) : Form.Statement (.bankQuery args) := Form.ofAddressed rfl rfl
theorem Form.planQuery (kw : Kw) (args : List Arg) : Form.Statement (.planQuery kw args) := Form.ofAddressed rfl rfl
theorem Form.guard (args : List Arg) : Form.Statement (.guard args) := Form.ofAddressed rfl rfl
theorem Form.rfth (args : List Arg) : Form.Statement (.rfth args) := Form.ofAddressed rfl rfl
theorem Form.mute (args : List Arg) : Form.Statement (.mute args) := Form.ofAddressed rfl rfl
theorem Form.muteQuery (args : List Arg) : Form.Statement (.muteQuery args) := Form.ofAddressed rfl rfl
theorem Form.senseQuery (args : List Arg) : Form.Statement (.senseQuery args) := Form.ofAddressed rfl rfl
theorem Form.supplyQuery (args : List Arg) : Form.Statement (.supplyQuery args) := Form.ofAddressed rfl rfl
theorem Form.wearLim (args : List Arg) : Form.Statement (.wearLim args) := Form.ofAddressed rfl rfl
theorem Form.wearClr (args : List Arg) : Form.Statement (.wearClr args) := Form.ofAddressed rfl rfl
theorem Form.wearQuery (args : List Arg) : Form.Statement (.wearQuery args) := Form.ofAddressed rfl rfl
theorem Form.freq (args : List Arg) : Form.Statement (.freq args) := Form.ofAddressed rfl rfl
theorem Form.freqQuery (args : List Arg) : Form.Statement (.freqQuery args) := Form.ofAddressed rfl rfl
theorem Form.lossE (args : List Arg) : Form.Statement (.lossE args) := Form.ofAddressed rfl rfl
theorem Form.lossN (args : List Arg) : Form.Statement (.lossN args) := Form.ofAddressed rfl rfl
theorem Form.lossQuery (kw : Option Kw) (args : List Arg) : Form.Statement (.lossQuery kw args) := Form.ofAddressed rfl rfl
theorem Form.step (args : List Arg) : Form.Statement (.step args) := Form.ofAddressed rfl rfl
theorem Form.stepQuery (args : List Arg) : Form.Statement (.stepQuery args) := Form.ofAddressed rfl rfl
theorem Form.sdel (args : List Arg) : Form.Statement (.sdel args) := Form.ofAddressed rfl rfl
theorem Form.list (args : List Arg) : Form.Statement (.list args) := Form.ofAddressed rfl rfl
theorem Form.listQuery (args : List Arg) : Form.Statement (.listQuery args) := Form.ofAddressed rfl rfl
theorem Form.ldel (args : List Arg) : Form.Statement (.ldel args) := Form.ofAddressed rfl rfl
theorem Form.arm (args : List Arg) : Form.Statement (.arm args) := Form.ofAddressed rfl rfl
theorem Form.go (via : Via) : Form.Statement (.go via) := Form.ofEither rfl rfl
theorem Form.halt (via : Via) (args : List Arg) : Form.Statement (.halt via args) := Form.ofEither rfl rfl
theorem Form.resume (args : List Arg) : Form.Statement (.resume args) := Form.ofAddressed rfl rfl
theorem Form.abort (args : List Arg) : Form.Statement (.abort args) := Form.ofAddressed rfl rfl
theorem Form.seqQuery (args : List Arg) : Form.Statement (.seqQuery args) := Form.ofAddressed rfl rfl
theorem Form.trin (args : List Arg) : Form.Statement (.trin args) := Form.ofAddressed rfl rfl
theorem Form.trinQuery (args : List Arg) : Form.Statement (.trinQuery args) := Form.ofAddressed rfl rfl
theorem Form.trout (args : List Arg) : Form.Statement (.trout args) := Form.ofAddressed rfl rfl
theorem Form.troutQuery (args : List Arg) : Form.Statement (.troutQuery args) := Form.ofAddressed rfl rfl
theorem Form.pace (args : List Arg) : Form.Statement (.pace args) := Form.ofAddressed rfl rfl
theorem Form.paceQuery (args : List Arg) : Form.Statement (.paceQuery args) := Form.ofAddressed rfl rfl
theorem Form.snap (args : List Arg) : Form.Statement (.snap args) := Form.ofAddressed rfl rfl
theorem Form.snapQuery (args : List Arg) : Form.Statement (.snapQuery args) := Form.ofAddressed rfl rfl
theorem Form.noteQuery (args : List Arg) : Form.Statement (.noteQuery args) := Form.ofAddressed rfl rfl
theorem Form.attn (args : List Arg) : Form.Statement (.attn args) := Form.ofAddressed rfl rfl
theorem Form.statQuery (args : List Arg) : Form.Statement (.statQuery args) := Form.ofAddressed rfl rfl
theorem Form.identQuery (args : List Arg) : Form.Statement (.identQuery args) := Form.ofAddressed rfl rfl
theorem Form.save (args : List Arg) : Form.Statement (.save args) := Form.ofAddressed rfl rfl
theorem Form.load (args : List Arg) : Form.Statement (.load args) := Form.ofAddressed rfl rfl
theorem Form.storeQuery (args : List Arg) : Form.Statement (.storeQuery args) := Form.ofAddressed rfl rfl
theorem Form.reset (via : Via) : Form.Statement (.reset via) := Form.ofEither rfl rfl
theorem Form.quietChange (high : Bool) : Form.Statement (.quietChange high) := Form.ofEvent rfl rfl rfl
theorem Form.detectorReading (d : Fin 8) (centiDbm : Int) : Form.Statement (.detectorReading d centiDbm) := Form.ofEvent rfl rfl rfl
theorem Form.muteTimeout : Form.Statement .muteTimeout := Form.ofEvent rfl rfl rfl
theorem Form.releaseIntervalEnd : Form.Statement .releaseIntervalEnd := Form.ofEvent rfl rfl rfl
theorem Form.waveStart (b : Fin 8) : Form.Statement (.waveStart b) := Form.ofEvent rfl rfl rfl
theorem Form.waveEnd (b : Fin 8) : Form.Statement (.waveEnd b) := Form.ofEvent rfl rfl rfl
theorem Form.retryStart (b : Fin 8) : Form.Statement (.retryStart b) := Form.ofEvent rfl rfl rfl
theorem Form.elementReady (e : Nat) : Form.Statement (.elementReady e) := Form.ofEvent rfl rfl rfl
theorem Form.supplyChange (centivolts : Int) : Form.Statement (.supplyChange centivolts) := Form.ofEvent rfl rfl rfl
theorem Form.holdLimitExpiry : Form.Statement .holdLimitExpiry := Form.ofEvent rfl rfl rfl
theorem Form.senseReportChange (b slot : Fin 8) (closed : BitVec 8) : Form.Statement (.senseReportChange b slot closed) := Form.ofEvent rfl rfl rfl
theorem Form.readingCounted (e : Nat) : Form.Statement (.readingCounted e) := Form.ofEvent rfl rfl rfl
theorem Form.triggerInputChange (i : Fin 4) (high : Bool) : Form.Statement (.triggerInputChange i high) := Form.ofEvent rfl rfl rfl
theorem Form.qualificationEnd (i : Fin 4) : Form.Statement (.qualificationEnd i) := Form.ofEvent rfl rfl rfl
theorem Form.paceExpiry : Form.Statement .paceExpiry := Form.ofEvent rfl rfl rfl
theorem Form.windowClose : Form.Statement .windowClose := Form.ofEvent rfl rfl rfl
theorem Form.dwellExpiry : Form.Statement .dwellExpiry := Form.ofEvent rfl rfl rfl
theorem Form.outputPulseEnd (o : Fin 4) : Form.Statement (.outputPulseEnd o) := Form.ofEvent rfl rfl rfl
theorem Form.flushClockExpiry : Form.Statement .flushClockExpiry := Form.ofEvent rfl rfl rfl
theorem Form.saveComplete (readBack : Bool) : Form.Statement (.saveComplete readBack) := Form.ofEvent rfl rfl rfl
theorem Form.flushComplete (readBack : Bool) : Form.Statement (.flushComplete readBack) := Form.ofEvent rfl rfl rfl
theorem Form.commandStart : Form.Statement .commandStart := Form.ofEvent rfl rfl rfl
theorem Form.powerStart : Form.Statement .powerStart := Form.ofEvent rfl rfl rfl
theorem Form.lineStart : Form.Statement .lineStart := Form.ofEvent rfl rfl rfl
theorem Form.resetRelease : Form.Statement .resetRelease := Form.ofEvent rfl rfl rfl
theorem Form.startUpComplete (straps : Straps) : Form.Statement (.startUpComplete straps) := Form.ofEvent rfl rfl rfl
theorem Form.commandPairCharacter (code : BitVec 8) (framing : Bool) : Form.Statement (.commandPairCharacter code framing) := Form.ofEvent rfl rfl rfl
theorem Form.replyPairCharacter : Form.Statement .replyPairCharacter := Form.ofEvent rfl rfl rfl
theorem Form.powerLoss : Form.Statement .powerLoss := Form.ofEvent rfl rfl rfl

end Sys2Proof.Laws
end

