-- ==== Sys2Proof/Laws/Queue.lean ====
section
/-! SUPPORT. What the Plan Queue will link and what a step's plan releases (R36, R38, R50). -/

namespace Sys2Proof.Machine

@[simp] theorem linksInFlight_of_none {s : State} (h : s.engine.flight = none) : s.linksInFlight = [] := by
  simp [State.linksInFlight, h]

/-- A plan that has been cut links nothing (R46, R76). -/
@[simp] theorem linksInFlight_of_cut {s : State} {f : Flight} (h : s.engine.flight = some f) (hc : f.phase = .cut) :
    s.linksInFlight = [] := by
  simp [State.linksInFlight, h, hc]

@[simp] theorem linksInFlight_of_uncut {s : State} {f : Flight} (h : s.engine.flight = some f) (hc : f.phase ≠ .cut) :
    s.linksInFlight = f.plan.links.map (·.route) := by
  simp [State.linksInFlight, h, hc]

@[simp] theorem linksWaiting_of_nil {s : State} (h : s.engine.waiting = []) : s.linksWaiting = [] := by
  simp [State.linksWaiting, h]

/-- With no plan queued no route is pending, and the projection is the unmarked part of the Held Set (R36). -/
theorem projection_of_no_plan {s : State} (hf : s.engine.flight = none) (hw : s.engine.waiting = []) :
    s.projection = s.held.filter s.unmarked := by
  simp [State.projection, State.pendingRoutes, hf, hw]

/-- A step's plan carries the marks found for its ops, and no others. -/
theorem mem_stepMarks {s : State} {ops : List StepOp} {m : Nat × MarkKind} :
    m ∈ s.stepMarks ops ↔ m ∈ s.findMarks ops ∧ ∃ o ∈ ops, markOf o m = true := by
  simp only [State.stepMarks, List.mem_flatMap, List.mem_filter]
  exact ⟨fun ⟨o, ho, hm, hk⟩ => ⟨hm, o, ho, hk⟩, fun ⟨hm, o, ho, hk⟩ => ⟨o, ho, hm, hk⟩⟩

end Sys2Proof.Machine
end

