-- ==== Sys2Proof/Laws/Run.lean ====
section
/-! SUPPORT. Running one command: a record taken alone leaves its own effect and its reply, and an event whose effect leaves
nothing due leaves its own effect. -/

namespace Sys2Proof.Machine

/-- Whether anything is due depends on the plans, the guard and the sequencer alone. -/
theorem calm_congr {s t : State} (hf : t.engine.flight = s.engine.flight) (hw : t.engine.waiting = s.engine.waiting)
    (hg : t.guard = s.guard) (hq : t.seq = s.seq) (h : s.calm) : t.calm := by
  unfold State.calm State.instant at *
  rw [hf, hw]
  have hs : t.toSubmit = s.toSubmit := by unfold State.toSubmit; rw [hq]
  rw [hs]
  cases he : s.engine.flight with
  | some f =>
    simp only [he] at h ⊢
    have := flightInstant_isNone_congr (s := s) (t := t) f hg
    rw [h] at this
    simpa using this
  | none =>
    simp only [he] at h ⊢
    cases hw' : s.engine.waiting with
    | cons p ps => simp [hw'] at h
    | nil =>
      simp only [hw'] at h ⊢
      cases hts : s.toSubmit with
      | some rd => simp [hts] at h
      | none => simp only [hts] at h ⊢; split at h <;> simp_all

/-- With a plan in flight, what waits behind it and the sequencer make nothing due. -/
theorem calm_of_flight {s t : State} {f : Flight} (hs : s.engine.flight = some f) (ht : t.engine.flight = some f)
    (hg : t.guard = s.guard) (h : s.calm) : t.calm := by
  unfold State.calm State.instant at *
  rw [hs] at h
  rw [ht]
  have := flightInstant_isNone_congr (s := s) (t := t) f hg
  simp only at h ⊢
  rw [h] at this
  simpa using this

/-- With no plan queued and no step to submit, only a hold being carried is due. -/
theorem calm_of_empty {s : State} (hf : s.engine.flight = none) (hw : s.engine.waiting = []) (hq : s.toSubmit = none)
    (hc : s.guard.carry = false) : s.calm := by
  simp [State.calm, State.instant, hf, hw, hq, hc]

/-- A calm state without a plan in flight has no plan waiting, no step to submit and no hold being carried. -/
theorem calm_empty {s : State} (h : s.calm) (hf : s.engine.flight = none) :
    s.engine.waiting = [] ∧ s.toSubmit = none ∧ s.guard.carry = false := by
  unfold State.calm State.instant at h
  rw [hf] at h
  cases hw : s.engine.waiting with
  | cons p ps => simp [hw] at h
  | nil =>
    simp only [hw] at h
    cases hq : s.toSubmit with
    | some rd => simp [hq] at h
    | none => simp only [hq] at h; refine ⟨rfl, rfl, ?_⟩; split at h <;> simp_all

theorem settled_calm {s : State} (h : s.calm) : s.settled = s := settled_quiet h

@[simp] theorem reply_calm {s : State} (v : Via) (r : Reply) (h : s.calm) : (s.reply v r).calm := reply_instant v r h

/-- A record taken alone, when what its command leaves is calm: the command's own effect, and its reply. -/
theorem receive_alone {s t : State} {c : Instr} {cmd : State → Answer} {r : Reply} (hs : s.takes c.via)
    (hc : cmd s = (r, t)) (ht : t.calm) : s.receive c cmd = t.reply c.via r := by
  rw [receive_take hs.1 hs.2.1 hs.2.2, State.take, hc]
  exact settled_calm (reply_calm _ _ ht)

/-- The same without asking that nothing is due afterwards. -/
theorem receive_settled {s t : State} {c : Instr} {cmd : State → Answer} {r : Reply} (hs : s.takes c.via)
    (hc : cmd s = (r, t)) : s.receive c cmd = (t.reply c.via r).settled := by
  rw [receive_take hs.1 hs.2.1 hs.2.2, State.take, hc]

/-- An event of a running controller whose effect leaves nothing due. -/
theorem during_calm {s : State} {go : State → State} (hr : s.life = .running) (h : (go s).calm) : s.during go = go s := by
  rw [State.during, if_pos hr, settled_calm h]

/-- A timed event that is due, when its effect leaves nothing due. -/
theorem whenDue_calm {s : State} {due : Option Micros} {t : Micros} {go : State → State} (hd : due = some t)
    (hr : s.life = .running) (h : (go (s.at t)).calm) : s.whenDue due go = go (s.at t) := by
  simp only [State.whenDue, hd]
  exact during_calm hr h

end Sys2Proof.Machine
end

