-- ==== Sys2Proof/Tests/Slice0.lean ====
section
/-! SUPPORT. Tests: ill-formed commands, the reading of records, values the spec works out, and for each statement with
hypotheses a state and operands that meet them (`witness_…`). -/

namespace Sys2Proof.Tests

open Machine

/-! ### Ill-formed commands, one for each check of `wellFormed` -/

theorem test_too_many_arguments : wellFormed (.freq (List.replicate 45 (aNum 100))) = false := by decide
theorem test_as_many_arguments_as_fit : wellFormed (.freq (List.replicate 44 (aNum 100))) = true := by decide
theorem test_plan_keyword : wellFormed (.planQuery .force [aId .p 1]) = false := by decide
theorem test_loss_keyword : wellFormed (.lossQuery (some .all) []) = false := by decide
theorem test_unlink_all_is_its_own_row : wellFormed (.unlink [aWord .all]) = false := by decide
theorem test_ready_element_in_range : wellFormed (.elementReady 64) = false := by decide
theorem test_counted_element_in_range : wellFormed (.readingCounted 64) = false := by decide
theorem test_carriage_return_is_its_own_row : wellFormed (.commandPairCharacter 13#8 false) = false := by decide

/-! ### Records and replies (R181 to R183, 9.2) -/

theorem test_record_case_and_trailing_spaces :
    parseAddressed " link p1,PRE  ".toList = .link [aId .p 1, aWord .pre] := by decide
theorem test_record_keyword : parseAddressed " WEAR LIM E63,100".toList = .wearLim [aId .e 63, aNum 100] := by decide
theorem test_record_decimal : parseAddressed " RFTH D0,-40.5".toList = .rfth [aId .d 0, .one (.dec true 405 1)] := by decide
theorem test_record_compound_values :
    parseAddressed " STEP S5,TI1,PAT,10,0,-,TO1:READY,-,LINK:P1".toList =
      .step [aId .s 5, aId .ti 1, aWord .pat, aNum 10, aNum 0, .one .hyphen, .pair (.ident .to 1) (.word .ready),
        .one .hyphen, .pair (.word .link) (.ident .p 1)] := by decide
theorem test_record_two_spaces : parseAddressed " LINK  P1".toList = .badRecord := by decide
theorem test_record_unknown_mnemonic : parseAddressed " LINKS P1".toList = .badRecord := by decide
/-- R183: only an empty argument between two commas makes the record bad. -/
theorem test_record_empty_argument :
    parseAddressed " LINK P1,,PRE".toList = .badRecord ∧ parseAddressed " LINK P1,".toList = .link [aId .p 1, .one .bad] ∧
      parseAddressed " SAFE X,".toList = .safe .addressed := by decide
theorem test_identifier_leading_zero : parseAddressed " PDEL P01".toList = .pdel [aWord .other] := by decide
theorem test_broadcast_by_mnemonic_alone : parseBroadcast " safe now".toList = some (.safe .broadcast) := by decide
theorem test_broadcast_of_another_command : parseBroadcast " LINK P1".toList = none := by decide
theorem test_reply_record :
    (Reply.nak .conflict (vRoute 3)).record 7 = '=' :: "07 NAK CONFLICT,P3".toList ++ ['\r'] := by decide
theorem test_no_row_gives_bits : decodeTableWord 16 7 = none := by decide

/-! ### Small values the spec works out -/

/-- R61: a character of 115,200 baud lasts ten bit times, rounded up to a whole µs. -/
theorem test_character_time : charsTime .b19200 1 = 521 := by decide
/-- R98: NORMAL falls to LOW below 21.2 V and returns at 21.6 V; CUT rises to LOW at 19.6 V. -/
theorem test_supply_bands :
    nextSupply .normal 212 = .normal ∧ nextSupply .normal 211 = .low ∧ nextSupply .low 215 = .low ∧
      nextSupply .low 216 = .normal ∧ nextSupply .low 192 = .low ∧ nextSupply .low 191 = .cut ∧
      nextSupply .cut 195 = .cut ∧ nextSupply .cut 196 = .low := by decide
/-- R84: present at the threshold, absent only more than 1 dB below it. -/
theorem test_rf_hysteresis :
    judgeRf false (-20) (-20) = true ∧ judgeRf true (-22) (-20) = true ∧ judgeRf true (-23) (-20) = false := by decide
/-- R118: a half rounds up. -/
theorem test_loss_half_rounds_up : lossAt [1000, 2000] [10, 11] 1500 = 11 := by decide
/-- R118: on a falling line too. -/
theorem test_loss_half_rounds_up_falling : lossAt [1000, 2000] [11, 10] 1500 = 11 := by decide
/-- R163: a width of 1 µs is stored as 10 µs; R70: a clamp. -/
theorem test_stored_times : storedTime 0 655350 1 = 10 ∧ storedTime 2000 50000 50001 = 50000 := by decide
/-- R7: position 2 of an XFER joins T2 to T3 by connection 4. -/
theorem test_transfer_connections : partner .xfer 2 1 = some (2, 4) ∧ partner .xfer 1 2 = some (3, 2) := by decide
/-- R19: two contacts closed read NONE; none closed reads 0 on an EML and NONE on an XFER. -/
theorem test_readings :
    readingOf .sp4 .eml 0b0101#8 = .nothing ∧ readingOf .sp4 .eml 0#8 = .pos 0 ∧ readingOf .xfer .eml 0#8 = .nothing ∧
      readingOf .sp4 .eml 0b0100#8 = .pos 3 := by decide
/-- R164: count 0 stands for 16,777,216 ticks. -/
theorem test_pace_count_zero : paceTicks 0 = 16777216 := by decide

/-! ### States for the witnesses -/

/-- A small fabric: E0 joins N1 to N3, N4 or, through N2 and E1, to N5. E0 stands at 1. -/
def fab : State := { State.reset with
  nodes := [(1, ⟨.instr, some 0, some .open_, []⟩), (2, ⟨.inner, none, none, [0]⟩), (3, ⟨.ant, none, none, []⟩),
    (4, ⟨.ant, none, none, []⟩), (5, ⟨.fix, none, none, []⟩), (6, ⟨.instr, none, some .open_, []⟩)]
  elems := [
    (0, ⟨⟨.sp4, .eml, 0, 0, [some 1, some 3, some 4, some 2, none], 0⟩, List.replicate 4 [0], ⟨0, 0, 5, false⟩, some 1, .idle,
      none, none⟩),
    (1, ⟨⟨.sp2, .eml, 1, 0, [some 2, some 5, none], 0⟩, [[0], [0]], ⟨9, 0, 0, false⟩, none, .unknown, none, none⟩)]
  routes := [
    (1, ⟨⟨1, 3, [(0, 1)], .p2⟩, [1, 3], [⟨1, 0⟩], .idle, none, none⟩),
    (2, ⟨⟨1, 4, [(0, 2)], .p1⟩, [1, 4], [⟨2, 0⟩], .idle, none, none⟩),
    (3, ⟨⟨1, 5, [(0, 3), (1, 1)], .p3⟩, [1, 2, 5], [⟨3, 0⟩, ⟨1, 0⟩], .idle, none, none⟩)]
  settings := { Settings.defaults with
    steps := [(0, ⟨[⟨.link, 1⟩], .soft, 10, 0, .a, none, none, false⟩),
      (1, ⟨[⟨.linkp, 2⟩], .auto, 10, 0, .a, none, none, false⟩),
      (2, ⟨[⟨.link, 2⟩], .soft, 10, 0, .a, some .p1, none, false⟩)]
    lists := [(0, ⟨0, 1, 2, 0, true, false, 0, 2000, none⟩), (1, ⟨1, 1, 1, 0, false, true, 0, 0, none⟩),
      (2, ⟨2, 2, 1, 0, false, true, 1000, 2000, some 1000⟩), (3, ⟨0, 2, 1, 0, false, true, 0, 0, none⟩)] } }

/-- A plan that moves one element. -/
def posnPlan : Plan := ⟨7, .posn, none, [], [], some ⟨1, 1, false⟩, some .p2⟩

/-- A plan in flight with a move set. -/
def flightOf (phase : Phase) (moves : List Move) : Flight :=
  ⟨posnPlan, phase, 0, moves, .empty, false, false, false, none, Vector.replicate 8 .fresh⟩

def inFlight (s : State) (f : Flight) : State := { s with engine := { s.engine with flight := some f } }

/-- A plan waits in GUARD for QUIET. -/
def guarding : Flight := { flightOf .guard [⟨1, 1, .p2, .waiting, false⟩] with
  guard := { GuardRec.empty with handshake := true, expiry := 100000 } }
def busy : State := inFlight fab guarding

/-- P1 and P2 stand in the states given. -/
def withRoutes (s : State) (a b : RouteState) : State :=
  { s with routes := [
      (1, ⟨⟨1, 3, [(0, 1)], .p2⟩, [1, 3], [⟨1, 0⟩], a, none, none⟩),
      (2, ⟨⟨1, 4, [(0, 2)], .p1⟩, [1, 4], [⟨2, 0⟩], b, none, none⟩)]
           held := (if a = .held then [1] else []) ++ (if b = .held then [2] else []) }

/-- List L0 stands on step S0, in pass 0, in a mode. -/
def armed (m : SeqMode) : State := { fab with seq := some ⟨0, 0, 0, m, none, none⟩ }

theorem alone_of {s : State} (h : (s.hears .addressed && s.link.inbound.isEmpty && s.ready .addressed && s.instant.isNone) = true) :
    s.takesAlone := by
  simp only [Bool.and_eq_true, List.isEmpty_iff, Option.isNone_iff_eq_none] at h
  exact ⟨⟨h.1.1.1, h.1.1.2, h.1.2⟩, h.2⟩

theorem still_of {s : State} (h : (decide (s.life = .running) && s.instant.isNone) = true) : s.still := by
  simp only [Bool.and_eq_true, decide_eq_true_eq, Option.isNone_iff_eq_none] at h
  exact h

theorem alone_fab : fab.takesAlone := alone_of (by decide)
theorem alone_busy : busy.takesAlone := alone_of (by decide)


/-! ### Witnesses: the block and its invariants -/

theorem witness_EmptyQueueStep :
    (State.reset.pending = [] ∧ ∀ te ∈ State.reset.timedEvents, State.reset.now < te.1) ∧
      (busy.pending = [] ∧ ∃ te ∈ ({ busy with now := 7000, timers := { busy.timers with
        outs := busy.timers.outs.set 0 (.pulse 7000) } } : State).timedEvents, te.1 ≤ 7000) :=
  ⟨⟨rfl, by decide⟩, rfl, (7000, .outputPulseEnd 0), by decide, by decide⟩

theorem witness_TablesStayCanonical : fab.canonical ∧ step fab = .next { fab with now := 1 } := by
  refine ⟨⟨⟨?_, ?_, ?_⟩, ?_, ?_, ?_⟩, rfl⟩
  · unfold Tables.sorted tsorted; decide
  all_goals intros; contradiction

theorem witness_QueuesStayBounded : busy.queuesLegal ∧ step busy = .next { busy with now := 1 } := by
  refine ⟨⟨by decide, by decide, by decide, by decide, by decide, ?_⟩, rfl⟩
  intro h; exact absurd h (by decide)

theorem witness_IdleStaysQuiet : busy.idleQuiet ∧ busy.seq = none ∧ step busy = .next { busy with now := 1 } :=
  ⟨fun _ => by decide, rfl, rfl⟩

theorem witness_LossListsFitTheGrid :
    fab.everyTables Tables.lossesFit ∧ step fab = .next { fab with now := 1 } := by
  refine ⟨⟨?_, ?_, ?_⟩, rfl⟩
  · unfold Tables.lossesFit lossListFits; decide
  all_goals intros; contradiction

theorem witness_StoredValuesStayInRange :
    (fab.everyTables Tables.legal ∧ fab.wearLegal) ∧ step fab = .next { fab with now := 1 } := by
  have lists : ∀ kv ∈ fab.settings.lists, inList kv.1 = true ∧ kv.2.legal := by
    intro kv h
    simp only [fab, List.mem_cons, List.not_mem_nil, or_false] at h
    rcases h with rfl | rfl | rfl | rfl <;>
      exact ⟨by decide, by decide, by decide, by decide, by decide, by decide, by decide, by decide,
        by intro f hf; cases hf <;> decide⟩
  refine ⟨⟨⟨⟨?_, ?_, by decide, ?_⟩, ?_, ?_⟩, ⟨?_, ?_, ?_⟩, ?_, ?_, ?_⟩, rfl⟩
  · unfold Node.legal; decide
  · unfold ElemDef.legal; decide
  · refine ⟨by decide, by decide, ?_, by decide, by decide, by decide, by decide, ?_, lists, by decide, ?_⟩
    · intro k p; cases k <;> cases p <;> decide
    · unfold StepRec.legal; decide
    · unfold PaceSetting.legal; decide
  case refine_6 => unfold Wear.legal; decide
  all_goals intros; contradiction

/-! ### Witnesses: rules of the whole machine -/

theorem witness_RefusalChangesNothing :
    (Instr.arm []).isRecord = true ∧ (Instr.arm []).via = .addressed ∧ fab.takesAlone ∧
      exec (.arm []) fab = .next (fab.reply .addressed (.nak .badForm [])) ∧
      (fab.reply .addressed (.nak .badForm [])).link.replies = fab.link.replies ++ [.nak .badForm []] :=
  ⟨rfl, rfl, alone_fab, rfl, rfl⟩

/-- The Reply Queue has one place left: the edge of "taken". -/
def sevenReplies : State := { fab with link := { fab.link with replies := List.replicate 7 (.ok []) } }

theorem witness_OneReplyEach :
    ((Instr.muteQuery []).isRecord = true ∧ sevenReplies.takes (Instr.muteQuery []).via ∧
      exec (.muteQuery []) sevenReplies = .next (sevenReplies.reply .addressed (.ok [vNum 100000]))) ∧
      (Instr.go .broadcast).isRecord = true ∧ sevenReplies.takes (Instr.go .broadcast).via ∧
      exec (.go .broadcast) sevenReplies = .next sevenReplies :=
  ⟨⟨rfl, ⟨rfl, rfl, rfl⟩, rfl⟩, rfl, ⟨rfl, rfl, rfl⟩, rfl⟩

/-- Eight replies wait, and n records behind them. -/
def waitingRecords (n : Nat) : State :=
  { fab with link := { fab.link with replies := List.replicate 8 (.ok []), inbound := List.replicate n (.muteQuery []) } }

theorem witness_RecordsQueueInOrder :
    ((Instr.muteQuery []).isRecord = true ∧ (waitingRecords 0).hears .addressed = true ∧
      ((waitingRecords 0).link.inbound ++ [Instr.muteQuery []]).head? = some (Instr.muteQuery []) ∧
      (waitingRecords 0).ready .addressed = false ∧ (waitingRecords 0).link.inbound.length < 8) ∧
    ((waitingRecords 7).hears .addressed = true ∧
      ((waitingRecords 7).link.inbound ++ [Instr.muteQuery []]).head? = some (Instr.muteQuery []) ∧
      (waitingRecords 7).ready .addressed = false ∧ (waitingRecords 7).link.inbound.length < 8) ∧
    (waitingRecords 8).hears .addressed = true ∧
      ((waitingRecords 8).link.inbound ++ [Instr.muteQuery []]).head? = some (Instr.muteQuery []) ∧
      (waitingRecords 8).ready .addressed = false ∧ 8 ≤ (waitingRecords 8).link.inbound.length := by decide

theorem witness_DeafStationsAreUnchanged :
    (Instr.muteQuery []).isRecord = true ∧ (Instr.muteQuery []).via = .addressed ∧
      ({ fab with life := .unpowered } : State).life ≠ .running ∧
      ({ fab with straps := { fab.straps with addr := 0 } } : State).straps.addr.val = 0 := by decide

/-- A record being received: the characters kept, none with a framing error. -/
def receiving (text : String) (bad : Bool) : State :=
  { fab with link := { fab.link with receive := .inside (text.toList.map (·, false)) text.length bad } }

def keptOf (text : String) : List (Char × Bool) := text.toList.map (·, false)

theorem witness_ReceivedRecordsActAsTheirCommands :
    (fab.life = .running ∧ recordAddress (keptOf "@01 MUTE?") = some (1, " MUTE?".toList) ∧ 1 = fab.straps.addr.val) ∧
    (recordAddress (keptOf "@00 SAFE") = some (0, " SAFE".toList) ∧ parseBroadcast " SAFE".toList = some (.safe .broadcast)) ∧
    (recordAddress (keptOf "@02 MUTE?") = some (2, " MUTE?".toList) ∧ 2 ≠ fab.straps.addr.val) ∧
    (recordAddress (keptOf "@00 MUTE?") = some (0, " MUTE?".toList) ∧ parseBroadcast " MUTE?".toList = none) ∧
    (Instr.muteQuery []).isRecord = true ∧ (waitingRecords 1).hears .addressed = true ∧ (waitingRecords 1).link.stop = none ∧
      (waitingRecords 1).link.inbound = [.muteQuery []] ∧
      (waitingRecords 1).link.replies = .ok [] :: List.replicate 7 (.ok []) ∧
      (List.replicate 7 (Reply.ok [])).length < 8 := by decide

/-- The station answers the query its address received. -/
theorem test_received_query :
    exec .recordReceived (receiving "@01 MUTE?" false) = .next (fab.reply .addressed (.ok [vNum 100000])) := rfl

theorem witness_QueriesChangeNothing :
    (Instr.lossQuery none []).isPureQuery = true ∧ (Instr.elemQuery [aId .e 0]).isPureQuery = true ∧ fab.takesAlone :=
  ⟨rfl, rfl, alone_fab⟩

theorem witness_OnlyTheStoreWritesTheImage :
    fab.link.inbound = [] ∧ Instr.powerLoss.writesImage = false ∧ exec .powerLoss fab = .next (fab.beginStart .unpowered) :=
  ⟨rfl, rfl, rfl⟩

/-! ### Witnesses: starts -/

theorem witness_StartsDropAllWork :
    busy.life ≠ .unpowered ∧ (fab.beginStart .unpowered).life = .unpowered ∧ busy.resetLine = false ∧
      (let s : State := { fab with link := { fab.link with stop := some .ended } }
       s.life = .running ∧ s.link.stop = some .ended ∧ s.link.replies = []) ∧
      ({ fab with resetLine := true }.beginStart (.held .line)).resetLine = true ∧
      ({ fab with resetLine := true }.beginStart (.held .line)).life = .held .line := by decide

/-- The small fabric as an image holds it. -/
def image : Image := ⟨some ⟨fab.tables, 1⟩, some ⟨[(0, ⟨3, 1, 5, false⟩)], 1, 4⟩, none, 1, 2⟩

/-- A start over a good image, with a slot of B0 reading position 1. -/
def starting : State :=
  { fab.beginStart (.starting .power 200000) with
    senseLines := fab.senseLines.set 0 1#8, store := { Store.blank with image := image } }

theorem witness_StartUpCompletes :
    (starting.life = .starting .power 200000 ∧ starting.store.image.read.isSome = true ∧
      ({ starting with store := .blank } : State).store.image.read = none) ∧
    ∃ tb x y, starting.store.image.read = some tb ∧ tget tb.elems 63 = none ∧ tget tb.elems 0 = some x ∧
      tget tb.elems 1 = some y ∧ isFitted { resetStraps with fitted := 2#8 } x.d.bank = false ∧ isFitted resetStraps x.d.bank = true ∧
      isSensed { resetStraps with sensed := 1#8 } x.d = true ∧ isSensed resetStraps y.d = false :=
  ⟨by decide, _, _, _, rfl, rfl, rfl, rfl, by decide, by decide, by decide, by decide⟩

/-- The wear slot of the save gives the counts, and a sensed element takes its reading. -/
theorem test_start_takes_image :
    ((starting.completeStart .power { resetStraps with sensed := 1#8 }).elems.map (fun kv => (kv.1, kv.2.wear.life, kv.2.pos))) =
      [(0, 3, some 1), (1, 9, none)] := by decide

/-! ### Witnesses: chapters 1 and 2 -/

theorem witness_NodeDefines :
    fab.takesAlone ∧ (inNode 191 = true ∧ nodeKindOf .inner = some .inner ∧ tget fab.nodes 191 = none) ∧
      (nodeKindOf .instr = some .instr ∧ tget fab.nodes 0 = none ∧ ∀ kv ∈ fab.nodes, kv.2.det ≠ some 7) ∧
      (∃ x, tget fab.nodes 1 = some x ∧ x.kind = .instr ∧ x.guard ≠ some .sense ∧ x.guard ≠ some .both) ∧
      ∀ kv ∈ fab.routes, kv.2.st = .idle ∨ kv.2.nodes.contains 1 = false :=
  ⟨alone_fab, by decide, by decide, ⟨_, rfl, by decide, by decide, by decide⟩, by decide⟩

/-- Nothing wired, in the last slot of the last bank. -/
def freeDef : ElemDef := ⟨.xfer, .ss, 7, 7, [none, none, none, none], 2⟩

/-- The fabric without routes, so that its elements may be redefined. -/
def bare : State := { fab with routes := [] }

theorem witness_ElemDefines :
    (fab.takesAlone ∧ inElem 63 = true ∧ freeDef.legal ∧ elemKindOf .xfer = some freeDef.kind ∧
      techOfKw .ss = some freeDef.tech ∧ isFitted fab.straps freeDef.bank = true ∧
      (∀ n, some n ∈ freeDef.terms → inNode n = true) ∧ fab.elemRefusal 63 freeDef = none ∧ tget fab.elems 63 = none) ∧
    bare.takesAlone ∧ ∃ x, tget bare.elems 1 = some x ∧ inElem 1 = true ∧ ({ x.d with safe := 1 } : ElemDef).legal ∧
      elemKindOf .sp2 = some x.d.kind ∧ techOfKw .eml = some x.d.tech ∧ isFitted bare.straps x.d.bank = true ∧
      (∀ n, some n ∈ x.d.terms → inNode n = true) ∧ bare.elemRefusal 1 { x.d with safe := 1 } = none := by
  refine ⟨⟨alone_fab, by decide, by unfold ElemDef.legal; decide, rfl, rfl, by decide, ?_, by decide, by decide⟩,
    alone_of (by decide), _, rfl, by decide, by unfold ElemDef.legal; decide, rfl, rfl, by decide, ?_, by decide⟩
  · intro n h; simp [freeDef] at h
  · intro n h; simp at h; rcases h with rfl | rfl <;> decide

def busyHeld : State := withRoutes busy .held .idle
theorem alone_busyHeld : busyHeld.takesAlone := alone_of (by decide)

theorem witness_PosnPlacesAPlan :
    (busy.takesAlone ∧ busyHeld.takesAlone) ∧
      (∃ x, tget busy.elems 0 = some x ∧ legalPos x.d.kind x.d.tech 4 = true ∧ isFitted busy.straps x.d.bank = true) ∧
      (inElem 0 = true ∧ busy.seq = none ∧ busy.engine.flight.isSome = true ∧ busy.engine.waiting.length < 4 ∧
        busy.projectionNames 0 = []) ∧
      busyHeld.elems = busy.elems ∧ busyHeld.engine = busy.engine ∧ busyHeld.projectionNames 0 = [1] ∧
        profileOf 3 = some .p3 :=
  ⟨⟨alone_busy, alone_busyHeld⟩, ⟨_, rfl, by decide, by decide⟩, by decide, rfl, rfl, by decide, rfl⟩

theorem witness_FabricQueriesAnswer :
    fab.takesAlone ∧ (inNode 1 = true ∧ (tget fab.nodes 1).isSome = true) ∧
      (inElem 1 = true ∧ (tget fab.elems 1).isSome = true) ∧ (inNode 191 = true ∧ tget fab.nodes 191 = none) ∧
      (inElem 63 = true ∧ tget fab.elems 63 = none) ∧ inNode 192 = false ∧ inElem 64 = false :=
  ⟨alone_fab, by decide⟩

theorem witness_ContinuityJoinsTheEnds :
    fab.continuity ⟨1, 5, [(0, 3), (1, 1)], .p3⟩ = .ok ([1, 2, 5], [⟨3, 0⟩, ⟨1, 0⟩]) ∧ [(0, 3), (1, 1)] ≠ [] ∧
      fab.continuity ⟨1, 5, [(0, 4), (1, 1)], .p3⟩ = .error 1 := ⟨rfl, by decide, rfl⟩

theorem witness_RoutesAreDefinedAndDeleted :
    fab.takesAlone ∧ profileOf 2 = some .p2 ∧
    (let bad : RouteDef := ⟨1, 4, [(0, 1)], .p2⟩
     pathInRange 128 bad.src bad.dst bad.hops = true ∧ fab.pathUndefined bad = none ∧ fab.pathIllegal bad = none ∧
       fab.continuity bad = .error 1) ∧
    (let d : RouteDef := ⟨1, 3, [(0, 1)], .p2⟩
     pathInRange 128 d.src d.dst d.hops = true ∧ fab.pathUndefined d = none ∧ fab.pathIllegal d = none ∧
       fab.continuity d = .ok ([1, 3], [⟨1, 0⟩]) ∧ tget fab.routes 128 = none ∧ fab.stepRefs 128 = [] ∧ fab.seq = none ∧
       fab.stepBrokenBy 128 ⟨d, [1, 3], [⟨1, 0⟩], .idle, none, none⟩ = none) ∧
    (inRoute 0 = false ∧ inRoute 129 = false ∧ inRoute 128 = true ∧ tget fab.routes 128 = none) ∧
    (∃ r, tget busyHeld.routes 1 = some r ∧ r.st ≠ .idle) ∧
    (∃ r, tget fab.routes 1 = some r ∧ r.st = .idle ∧ fab.stepRefs 1 = [0]) ∧
    ∃ r, tget fab.routes 3 = some r ∧ r.st = .idle ∧ fab.stepRefs 3 = [] :=
  ⟨alone_fab, rfl, ⟨by decide, by decide, by decide, rfl⟩,
    ⟨by decide, by decide, by decide, rfl, by decide, by decide, rfl, by decide⟩, by decide, ⟨_, rfl, by decide⟩,
    ⟨_, rfl, by decide, by decide⟩, _, rfl, by decide, by decide⟩

theorem witness_LinkPlacesAPlan :
    (busy.takesAlone ∧ busyHeld.takesAlone) ∧
      (∃ r, tget busy.routes 1 = some r ∧ r.st = .idle ∧ ∀ h ∈ r.d.hops, busy.inFault h.1 = false) ∧
      (inRoute 1 = true ∧ busy.seq = none ∧ busy.engine.flight.isSome = true ∧ busy.engine.waiting.length < 4 ∧
        busy.conflicting 1 = [] ∧ busy.projection.length + 1 ≤ 32) ∧
      (∃ r, tget busyHeld.routes 2 = some r ∧ r.st = .idle ∧ ∀ h ∈ r.d.hops, busyHeld.inFault h.1 = false) ∧
      busyHeld.conflicting 2 = [1] ∧ busyHeld.projection.length + 1 ≤ 32 ∧
        busyHeld.projection.length - (busyHeld.conflicting 2).length + 1 ≤ 32 :=
  ⟨⟨alone_busy, alone_busyHeld⟩, ⟨_, rfl, by decide, by decide⟩, by decide, ⟨_, rfl, by decide, by decide⟩, by decide⟩

theorem witness_LinkInPlaceIsHeldAtOnce :
    fab.takesAlone ∧ (∃ r, tget fab.routes 1 = some r ∧ r.st = .idle ∧ ∀ h ∈ r.d.hops, fab.inPlace h.1 h.2 = true) ∧
      inRoute 1 = true ∧ fab.seq = none ∧ fab.engine.flight = none ∧ fab.engine.waiting = [] ∧ fab.conflicting 1 = [] ∧
        fab.projection.length + 1 ≤ 32 :=
  ⟨alone_fab, ⟨_, rfl, by decide, by decide⟩, by decide⟩

/-- P2 waits behind the plan in flight to be linked. -/
def busyPending : State :=
  let s := withRoutes busy .idle .pending
  { s with engine := { s.engine with waiting := [⟨8, .link, none, [⟨.link, 2, false⟩], [], none, none⟩], nextId := 9 } }
theorem alone_busyPending : busyPending.takesAlone := alone_of (by decide)

/-- P1 is held and nothing is queued; P1 is held and P2 waits to be linked; P1 is held and the Plan Queue is full. -/
def fabHeld : State := withRoutes fab .held .idle
def busyBoth : State :=
  let s := withRoutes busy .held .pending
  { s with engine := busyPending.engine }
def busyFull : State := { busyHeld with engine := { busyHeld.engine with waiting := List.replicate 4 posnPlan } }

theorem witness_UnlinkReleases :
    (fabHeld.takesAlone ∧ fabHeld.seq = none ∧ fabHeld.engine.flight = none ∧ fabHeld.engine.waiting = [] ∧ inRoute 1 = true ∧
      ∃ r, tget fabHeld.routes 1 = some r ∧ r.mark = none ∧ r.st = .held) ∧
    (busyHeld.takesAlone ∧ busyHeld.seq = none ∧ busyHeld.engine.flight.isSome = true ∧
      (∃ r, tget busyHeld.routes 1 = some r ∧ r.mark = none ∧ r.st = .held) ∧ busyHeld.engine.waiting.length < 4) ∧
    (busyPending.takesAlone ∧ busyPending.seq = none ∧ busyPending.engine.flight.isSome = true ∧
      (∃ r, tget busyPending.routes 2 = some r ∧ r.mark = none ∧ r.st = .pending) ∧ busyPending.linkWaiting 2 = true) ∧
    (busyPending.unlinkWithdraws = [2] ∧ busyPending.unlinkMarks = []) ∧
    (busyBoth.takesAlone ∧ busyBoth.seq = none ∧ busyBoth.engine.flight.isSome = true ∧ busyBoth.unlinkWithdraws = [2] ∧
      busyBoth.unlinkMarks = [1] ∧ busyBoth.engine.waiting.length < 4) ∧
    busyFull.takesAlone ∧ busyFull.seq = none ∧ busyFull.engine.flight.isSome = true ∧ busyFull.unlinkWithdraws = [] ∧
      busyFull.unlinkMarks ≠ [] ∧ busyFull.engine.waiting.length = 4 :=
  ⟨⟨alone_of (by decide), rfl, rfl, rfl, rfl, _, rfl, rfl, rfl⟩, ⟨alone_busyHeld, rfl, rfl, ⟨_, rfl, rfl, rfl⟩, by decide⟩,
    ⟨alone_busyPending, rfl, rfl, ⟨_, rfl, rfl, rfl⟩, by decide⟩, by decide,
    ⟨alone_of (by decide), rfl, rfl, by decide, by decide, by decide⟩, alone_of (by decide), rfl, rfl, by decide, by decide, rfl⟩

/-- SAFE has cut the LINK plan of P2, whose pulse still runs, and P2 waits to be linked again: UNLINK ALL withdraws it and finds no
route to mark. -/
theorem test_unlink_all_behind_a_cut :
    (let s := inFlight busyPending { flightOf .cut [⟨0, 2, .p1, .pulsing false, false⟩] with
       plan := ⟨7, .link, none, [⟨.link, 2, false⟩], [], none, none⟩ }
     (s.pendingRoutes, s.unlinkWithdraws, s.unlinkMarks)) = ([2], [2], []) := by decide +kernel

/-- UNLINK of a held route with no plan queued takes it out of the Held Set; UNLINK ALL withdraws P2 and then marks P1. -/
theorem test_unlink_releases :
    (match exec (.unlink [aId .p 1]) fabHeld with
     | .next t => (t.held, (tget t.routes 1).map (fun r => (r.st, r.outcome)))
     | _ => ([9], none)) = ([], some (.idle, some .released)) ∧
    (match exec .unlinkAll busyBoth with
     | .next t => (t.held, t.routes.map (fun kv => (kv.2.st, kv.2.outcome, kv.2.mark.isSome)), t.engine.waiting.length)
     | _ => ([], [], 0)) = ([1], [(.held, none, true), (.idle, some .aborted, false)], 1) := by decide +kernel

theorem witness_RouteQueriesAnswer : fab.takesAlone ∧ inRoute 1 = true ∧ (tget fab.routes 1).isSome = true :=
  ⟨alone_fab, rfl, rfl⟩

/-! ### Witnesses: chapters 3 to 6 -/

theorem witness_SafeClearsAllWork :
    busyHeld.takes .addressed ∧ sevenReplies.takes .broadcast ∧ (armed .waiting).takes .addressed ∧
      (armed .waiting).seq ≠ none := ⟨⟨rfl, rfl, rfl⟩, ⟨rfl, rfl, rfl⟩, ⟨rfl, rfl, rfl⟩, by decide⟩

theorem witness_DriveSettingsAreStored : fab.takesAlone ∧ techOfKw .ss = some .ss ∧ profileOf 3 = some .p3 ∧ 1 ≤ 8 ∧ 8 ≤ 8 :=
  ⟨alone_fab, by decide⟩

/-- E1 is in FAULT. -/
def faulty : State := { fab with elems := tmod fab.elems 1 (fun x => { x with st := .fault }) }

theorem witness_PlanQueryPredicts :
    (fab.takesAlone ∧ ∃ r, tget fab.routes 1 = some r ∧ inRoute 1 = true ∧ ∀ h ∈ r.d.hops, fab.inPlace h.1 h.2 = true) ∧
    (faulty.takesAlone ∧ ∃ r, tget faulty.routes 3 = some r ∧ inRoute 3 = true ∧ faulty.faultedHop r = some 1) ∧
    (∃ r x, tget fab.routes 2 = some r ∧ inRoute 2 = true ∧ r.d.hops = [(0, 2)] ∧ tget fab.elems 0 = some x ∧
      x.st ≠ .fault ∧ fab.inPlace 0 2 = false ∧ isFitted fab.straps x.d.bank = true ∧ x.d.tech = .eml ∧
      1 ≤ fab.settings.waveSize[x.d.bank]) ∧
    ∃ st, inStep 2 = true ∧ tget fab.settings.steps 2 = some st ∧ st.ops = [⟨.link, 2⟩] ∧ st.ovr = some .p1 :=
  ⟨⟨alone_fab, _, rfl, rfl, by decide⟩, ⟨alone_of (by decide), _, rfl, rfl, by decide⟩,
    ⟨_, _, rfl, rfl, rfl, rfl, by decide, by decide, by decide, rfl, by decide⟩, _, rfl, rfl, rfl, rfl⟩

/-- Two routes of one element out of place: 15,000 µs of pulse and 5,000 µs of settling (profile P1). -/
theorem test_predicted_time :
    (State.predict fab (fab.linkMoves none [2])) = (20000, 1, 1) := by decide

theorem witness_GuardSettingsAreStored :
    fab.takesAlone ∧ fab.engine.flight = none ∧
      (∃ x, inNode 1 = true ∧ guardModeOf .both = some .both ∧ tget fab.nodes 1 = some x ∧ x.kind = .instr ∧ x.det ≠ none) ∧
      (∃ x, guardModeOf .none = some .open_ ∧ inNode 3 = true ∧ tget fab.nodes 3 = some x ∧ x.kind ≠ .instr) ∧
      (∃ x, guardModeOf .sense = some .sense ∧ inNode 6 = true ∧ tget fab.nodes 6 = some x ∧ x.kind = .instr ∧
        x.det = none) ∧ asHalves (.one (.dec true 405 1)) = some (-81) :=
  ⟨alone_fab, rfl, ⟨_, rfl, rfl, rfl, rfl, by decide⟩, ⟨_, rfl, rfl, rfl, by decide⟩, ⟨_, rfl, rfl, rfl, rfl, rfl⟩, by decide⟩

theorem witness_WearAndSupplyCommands :
    fab.takesAlone ∧ inElem 64 = false ∧ (inElem 63 = true ∧ tget fab.elems 63 = none) ∧
      ([aId .e 1].length ≠ 2 ∧ asNum (aWord .off) = none ∧ (99999999 : Nat) < 100000000 ∧ ([] : List Arg).length ≠ 1 ∧
        [aNum 1] ≠ []) ∧
      ∃ x, inElem 1 = true ∧ tget fab.elems 1 = some x ∧ (10 ≤ 99999999 ∧ x.wear.life < 10) ∧
        (9 ≤ 99999999 ∧ 0 < 9 ∧ 9 ≤ x.wear.life) :=
  ⟨alone_fab, rfl, ⟨rfl, rfl⟩, by decide, _, rfl, rfl, by decide, by decide⟩

theorem witness_LossTablesAreWrittenAndRead :
    fab.takesAlone ∧ (([100, 18000] : List Nat) ≠ [] ∧ [100, 18000].all inFreq = true ∧ ascending [100, 18000] = true) ∧
      (∃ x, inElem 1 = true ∧ tget fab.elems 1 = some x ∧ 1 ≤ 2 ∧ 2 ≤ x.d.kind.connections) ∧
      (∃ x, inNode 2 = true ∧ tget fab.nodes 2 = some x ∧ x.kind = .inner) ∧
      ([3000].length = fab.settings.grid.length ∧ ∀ v ∈ [3000], v ≤ 3000) ∧
      inRoute 3 = true ∧ inFreq 1500 = true ∧ (tget fab.routes 3).isSome = true :=
  ⟨alone_fab, by decide, ⟨_, rfl, rfl, by decide, by decide⟩, ⟨_, rfl, rfl, rfl⟩, by decide, by decide⟩

theorem witness_LossInterpolatesTheGrid :
    ascending [1000, 2000, 4000] = true ∧ [10, 11, 5].length = [1000, 2000, 4000].length ∧
      (1000 ≤ 1000 ∧ 4000 ≤ 4000 ∧ [1000, 2000, 4000][1]? = some 2000) ∧
      [1000, 2000, 4000][1]? = some 2000 ∧ [1000, 2000, 4000][2]? = some 4000 ∧ 2000 < 3999 ∧ 3999 < 4000 := by decide

/-! ### Witnesses: chapters 7 and 8 -/

theorem alone_armed : (armed .waiting).takesAlone ∧ (armed .dwell).takesAlone ∧ (armed (.halted .wait)).takesAlone :=
  ⟨alone_of (by decide), alone_of (by decide), alone_of (by decide)⟩

theorem witness_StepsAndListsAreDefined :
    (fab.takesAlone ∧ fab.seq = none) ∧
    (inStep 255 = true ∧ asSource (aId .ti 3) = some (some (.ti 3)) ∧ asWord (aWord .pat) = some .pat ∧
      dwellSelOf .pat = some .pat ∧ asOverride (aWord .route) = some (some none) ∧
      asAction (.pair (.ident .to 3) (.word .atEnd)) = some (some (some ⟨3, false⟩)) ∧ asReport (aWord .rep) = some true ∧
      asAll asOp [.pair (.word .linkp) (.ident .p 1), .pair (.word .link) (.ident .p 3)] =
        some ([⟨.linkp, 1⟩, ⟨.link, 3⟩].map some) ∧
      (∀ o ∈ [StepOp.mk .unlink 1, ⟨.linkp, 2⟩], (tget fab.routes o.route).isSome = true) ∧
      opsTest fab.conflicts [⟨.unlink, 1⟩, ⟨.linkp, 2⟩] = none) ∧
    inList 7 = true ∧ 255 ≤ 255 ∧ 255 < 256 ∧ 65535 ≤ 65535 ∧ inFreq 100000 = true ∧
      (min 10000000 ((0 + 9) / 10 * 10) = 0 ∨ 10 < 0) ∧ min 10000000 ((1 + 9) / 10 * 10) < 20 := ⟨⟨alone_fab, rfl⟩, by decide⟩

/-- A list whose range ends at the undefined step S255. -/
def listTo255 : State :=
  { fab with settings := { fab.settings with lists := [(0, ⟨0, 255, 2, 0, true, false, 0, 2000, none⟩)] } }

theorem witness_ListsAndStepsAreReadAndDeleted :
    fab.takesAlone ∧ (armed .waiting).takesAlone ∧ inStep 256 = false ∧ (inStep 255 = true ∧ tget fab.settings.steps 255 = none) ∧
      (inStep 0 = true ∧ (tget fab.settings.steps 0).isSome = true ∧ fab.seq = none ∧ (armed .waiting).seq ≠ none) ∧
      inList 8 = false ∧ (inList 7 = true ∧ tget fab.settings.lists 7 = none) ∧ inList 0 = true ∧
      (tget fab.settings.lists 0).isSome = true ∧ fab.engine.flight = none ∧ fab.engine.waiting = [] ∧
      ∃ r, tget (listTo255).settings.lists 0 = some r ∧ listTo255.takesAlone ∧ tget listTo255.settings.steps 255 = none ∧
        r.first ≤ 255 ∧ 255 ≤ r.last ∧ listTo255.seq = none ∧ listTo255.engine.flight = none ∧
        listTo255.engine.waiting = [] :=
  ⟨alone_fab, alone_armed.1, by decide, by decide, by decide, by decide, by decide, by decide, by decide, rfl, rfl, _, rfl,
    alone_of (by decide), rfl, by decide, by decide, rfl, rfl, rfl⟩

/-- The plan of S0, with the ops given, is to be submitted, with P1 and P2 as given, P5 held or listed 32 times, and no queue. -/
def submitting (ops : List StepOp) (a b : RouteState) (held : List Nat) : State :=
  let s := withRoutes fab a b
  { s with
    routes := s.routes ++ [(5, ⟨⟨6, 5, [], .p1⟩, [6, 5], [], .held, none, none⟩)], held := held
    seq := some ⟨0, 0, 0, .switching false none, none, none⟩
    settings := { s.settings with steps := [(0, ⟨ops, .soft, 10, 0, .a, none, none, false⟩)] } }

theorem witness_ArmStartsTheList :
    (fab.takesAlone ∧ fab.seq = none ∧ fab.engine.waiting = [] ∧ fab.engine.flight = none ∧
      (∃ r st, tget fab.settings.lists 0 = some r ∧ fab.missingStep r = none ∧ tget fab.settings.steps r.first = some st ∧
        r.passes ≠ 0 ∧ st.src ≠ .auto) ∧
      ∃ r st, tget fab.settings.lists 1 = some r ∧ fab.missingStep r = none ∧ tget fab.settings.steps r.first = some st ∧
        r.passes ≠ 0 ∧ st.src = .auto) ∧
    (∀ h : List Nat, (submitting [⟨.link, 1⟩] .idle .idle h).engine.flight = none ∧
      (submitting [⟨.link, 1⟩] .idle .idle h).engine.waiting = []) ∧
    (let u := submitting [⟨.link, 1⟩] .idle .held [2]
     u.routeState 1 ≠ some .held ∧ (u.conflicting 1).filter (· ≠ 1) = [2]) ∧
    (let u := submitting [⟨.link, 1⟩] .idle .idle (List.replicate 32 5)
     u.routeState 1 ≠ some .held ∧ (u.conflicting 1).filter (· ≠ 1) = [] ∧ u.projection.length = 32) ∧
    (let u := submitting [⟨.link, 1⟩] .idle .idle (List.replicate 31 5)
     u.routeState 1 ≠ some .held ∧ (u.conflicting 1).filter (· ≠ 1) = [] ∧ u.projection.length = 31) ∧
    (submitting [⟨.link, 1⟩] .held .idle [1]).routeState 1 = some .held ∧
    (let u := submitting [⟨.linkp, 1⟩, ⟨.unlink, 5⟩] .idle .held [2, 5]
     (1 : Nat) ≠ 5 ∧ u.routeState 1 = some .idle ∧ u.routeState 5 = some .held ∧ u.projection.length < 32 ∧
       (u.conflicting 1).filter (fun r => r ≠ 1 && r ≠ 5) = [2]) :=
  ⟨⟨alone_fab, rfl, rfl, rfl, ⟨_, _, rfl, by decide +kernel, rfl, by decide, by decide⟩,
    _, _, rfl, by decide +kernel, rfl, by decide, by decide⟩, fun _ => ⟨rfl, rfl⟩, by decide +kernel⟩

/-- The releases of the step LINKP P1, UNLINK P5 are carried in op order. -/
theorem test_step_releases_in_op_order :
    ((submitting [⟨.linkp, 1⟩, ⟨.unlink, 5⟩] .idle .held [2, 5]).instant.map (fun t => t.engine.waiting.map (·.releases))) =
      some [[(2, .pre 1), (5, .unlink)]] := by decide +kernel

/-- L2 stands on S2, whose window opened at 0. -/
def early (now : Micros) : State :=
  { fab with now := now, seq := some ⟨2, 2, 0, .waiting, none, none⟩, timers := { fab.timers with window := .running 0 } }

theorem witness_GoIsAnAdvanceEvent :
    (fab.takesAlone ∧ fab.seq = none) ∧
    ((early 1000).takesAlone ∧ (early 999).takesAlone ∧ tget fab.settings.lists 2 = some ⟨2, 2, 1, 0, false, true, 1000, 2000, some 1000⟩ ∧
      fab.sourceNamed ⟨2, 2, 1, 0, false, true, 1000, 2000, some 1000⟩ .soft = true ∧
      ((early 1000).runStep ⟨2, 2, 0, .waiting, none, none⟩).src = .soft ∧ 1000 ≤ (early 1000).windowElapsed ∧
      (early 999).windowElapsed < 1000) ∧
    (armed .dwell).takesAlone ∧ (armed (.halted .wait)).takesAlone ∧
      tget fab.settings.lists 0 = some ⟨0, 1, 2, 0, true, false, 0, 2000, none⟩ ∧
      fab.sourceNamed ⟨0, 1, 2, 0, true, false, 0, 2000, none⟩ .soft = true ∧
      ({ fab with seq := some ⟨0, 0, 0, .dwell, some (.pace, 5), none⟩ } : State).takesAlone :=
  ⟨⟨alone_fab, rfl⟩, ⟨alone_of (by decide), alone_of (by decide), rfl, by decide, by decide, by decide, by decide⟩,
    alone_armed.2.1, alone_armed.2.2, rfl, by decide, alone_of (by decide)⟩

/-- A run whose step's plan, the one in flight, has been submitted. -/
def switchingBusy (d : Option Due) : State := { busy with seq := some ⟨0, 0, 0, .switching true d, none, none⟩ }

theorem witness_HaltActsByState :
    (fab.takesAlone ∧ fab.seq = none) ∧ (armed .waiting).takesAlone ∧ (armed .dwell).takesAlone ∧
      (switchingBusy none).takesAlone ∧ (switchingBusy (some .halt)).takesAlone ∧ (armed (.halted .wait)).takesAlone :=
  ⟨⟨alone_fab, rfl⟩, alone_armed.1, alone_armed.2.1, alone_of (by decide), alone_of (by decide), alone_armed.2.2⟩

/-- Halted in DWELL with 20 µs left. -/
def haltedDwell : State :=
  { armed (.halted .dwellRemaining) with timers := { fab.timers with dwell := .frozen 20 } }

theorem witness_ResumeAndAbort :
    (fab.takesAlone ∧ fab.seq = none) ∧ (armed (.halted .wait)).takesAlone ∧
      (haltedDwell.takesAlone ∧ haltedDwell.dwellRemaining ≠ 0) ∧ (armed (.halted .retry)).takesAlone ∧
      (armed .waiting).takesAlone ∧ (armed .dwell).takesAlone ∧ (switchingBusy none).takesAlone ∧
      (switchingBusy (some .halt)).takesAlone ∧ (switchingBusy (some .abort)).takesAlone :=
  ⟨⟨alone_fab, rfl⟩, alone_armed.2.2, ⟨alone_of (by decide), by decide⟩, alone_of (by decide), alone_armed.1, alone_armed.2.1,
    alone_of (by decide), alone_of (by decide), alone_of (by decide)⟩

theorem witness_TriggerSettingsAreStored :
    (fab.takesAlone ∧ fab.seq = none) ∧ ((armed .waiting).takesAlone ∧ (armed .waiting).seq ≠ none) ∧
      edgeOf .fall = some false ∧ filterOf .wide = some .wide :=
  ⟨⟨alone_fab, rfl⟩, ⟨alone_armed.1, by decide⟩, rfl, rfl⟩

theorem witness_PaceIsStoredAndRestarted :
    (fab.takesAlone ∧ parsePace [aWord .rate, aNum 2] = some (some .rate, 2, none) ∧
      paceInRange (some .rate) 2 none = some ⟨.rate, 2, none⟩ ∧ fab.seq = none) ∧
    ((armed .waiting).takesAlone ∧ (armed .waiting).seq ≠ none ∧ (armed .waiting).settings.pace.mode = .rate ∧
      (armed .waiting).settings.pace.gate = none) ∧
    parsePace [aWord .retrig, aNum 1, aId .ti 3] = some (some .retrig, 1, some 3) ∧
      paceInRange (some .retrig) 1 (some 3) = some ⟨.retrig, 1, some 3⟩ :=
  ⟨⟨alone_fab, rfl, rfl, rfl⟩, ⟨alone_armed.1, by decide, rfl, rfl⟩, rfl, rfl⟩

theorem witness_SnapLatchesAndReads : (armed .waiting).takesAlone ∧ [Kw.dwell, .seq, .dwell] ≠ [] ∧
    [Kw.dwell, .seq, .dwell].all isTarget = true := ⟨alone_armed.1, by decide, rfl⟩

/-! ### Witnesses: chapters 9 to 11 -/

/-- n notices wait. -/
def notices (n : Nat) : List Notice := List.replicate n ⟨.early, 0, [], []⟩

theorem witness_NoticeQueueTakesNotices :
    NoticeKind.late ≠ .overflow ∧
    (noticesLegal (notices 14) ∧ (notices 14).length ≤ 14 ∧ ∀ m ∈ notices 14, m.kind ≠ .overflow) ∧
    (noticesLegal (notices 15) ∧ (notices 15).length = 15 ∧ ∀ m ∈ notices 15, m.kind ≠ .overflow) ∧
    noticesLegal (notices 15 ++ [⟨.overflow, 0, vWord "EARLY", vNum 65535⟩]) :=
  ⟨by decide, ⟨⟨by decide, by decide, fun h => absurd h (by decide)⟩, by decide, by decide⟩,
    ⟨⟨by decide, by decide, fun h => absurd h (by decide)⟩, by decide, by decide⟩,
    by decide, by decide, fun _ => ⟨_, rfl, rfl⟩⟩

theorem witness_NoticeAndStatusCommands :
    (fab.takesAlone ∧ fab.notices = [⟨.start, 0, vWord "POWER", vWord "BAD"⟩] ∧ fab.seq = none) ∧
      ({ fab with notices := [] } : State).takesAlone ∧ (armed (.halted .wait)).takesAlone :=
  ⟨⟨alone_fab, rfl, rfl⟩, alone_of (by decide), alone_armed.2.2⟩

/-- ATTN answers RANGE for any one argument but ON and OFF (R197). -/
theorem test_attn_range : exec (.attn [aNum 1]) fab = .next (fab.reply .addressed (.nak .range [])) := rfl

/-- A store in a state, with a condition, a mark and a clock. -/
def stored (st : StoreState) (cond : ImageCond) (mark : Bool) (clock : FlushClock) : State :=
  { fab with now := 1000, store := ⟨image, st, cond, true, mark, clock⟩ }

def flushing : StoreState := .flushing false ⟨[], 1, 5⟩ 0

theorem witness_StoreCommandsAnswer :
    ([aNum 1] ≠ ([] : List Arg) ∧ (stored .idle .good false .absent).takesAlone) ∧
      ((stored flushing .good false .absent).takesAlone ∧ (stored flushing .good false .absent).store.st ≠ .idle) ∧
      (stored .idle .good true (.running 5000)).takesAlone ∧ (stored .idle .good true (.running 5000)).store.cond = .good ∧
      (stored .idle .good true (.running 5000)).store.mark = true ∧ (stored .idle .good false .absent).store.clock ≠ .due :=
  ⟨⟨by decide, alone_of (by decide)⟩, ⟨alone_of (by decide), by decide⟩, alone_of (by decide), rfl, rfl, by decide⟩

/-- The image is good, and these elements are defined before the LOAD. -/
def loading (es : Table Element) (straps : Straps) : State :=
  { stored .idle .good false .absent with elems := es, straps := straps }

theorem witness_LoadReplacesTheTables :
    (stored flushing .good false .absent).takesAlone ∧ (stored flushing .good false .absent).store.st ≠ .idle ∧
    ((stored .idle .bad false .absent).takesAlone ∧ (stored .idle .bad false .absent).store.cond ≠ .good) ∧
    (∀ es straps, let s := loading es straps
     s.store.st = .idle ∧ s.seq = none ∧ s.engine.waiting = [] ∧ s.engine.flight = none ∧ s.held = [] ∧
       s.store.cond = .good) ∧
    ∃ tb x, image.read = some tb ∧ (loading [] resetStraps).takesAlone ∧ tget tb.elems 63 = none ∧ tget tb.elems 0 = some x ∧
      tget (loading [] resetStraps).elems 0 = none ∧ isFitted { resetStraps with fitted := 2#8 } x.d.bank = false ∧
      isFitted resetStraps x.d.bank = true ∧
      ∃ o, tget fab.elems 0 = some o ∧ o.d.kind = x.d.kind ∧ o.d.tech = x.d.tech ∧
        ({ o.d with tech := .emf } : ElemDef).tech ≠ x.d.tech :=
  ⟨alone_of (by decide), by decide, ⟨alone_of (by decide), by decide⟩, fun _ _ => ⟨rfl, rfl, rfl, rfl, rfl, rfl⟩,
    _, _, rfl, alone_of (by decide), rfl, rfl, rfl, by decide, by decide, _, rfl, rfl, rfl, by decide⟩

/-- LOAD over no element: both become defined, E0 on an unfitted bank in FAULT; over E9 and E0: E9 becomes undefined, E0 keeps its
position. -/
theorem test_load_elements :
    (match exec (.load []) (loading [] { resetStraps with fitted := 2#8 }) with
     | .next t => t.elems.map (fun kv => (kv.1, kv.2.pos, kv.2.st))
     | _ => []) = [(0, none, .fault), (1, none, .unknown)] ∧
    (match exec (.load []) (loading (fab.elems.take 1 ++ fab.elems.map (fun kv => (kv.1 + 9, kv.2))) resetStraps) with
     | .next t => t.elems.map (fun kv => (kv.1, kv.2.pos, kv.2.st))
     | _ => []) = [(0, some 1, .idle), (1, none, .unknown)] := by decide +kernel

theorem witness_StoreWritesEnd :
    (let s := stored .idle .good true (.running 900)
     s.still ∧ s.link.stop = none ∧ s.store.clock = .running 900 ∧ s.store.st = .idle ∧ s.store.mark = true ∧
       s.store.cond = .good) ∧
    ((stored flushing .good true (.running 900)).still ∧ (stored flushing .good true (.running 900)).store.st ≠ .idle) ∧
    ((stored .idle .bad true (.running 900)).still ∧ (stored .idle .bad true (.running 900)).store.cond ≠ .good) ∧
    (let s := stored (.saving fab.tables 0) .writing false .absent
     s.still ∧ s.link.stop = none ∧ s.store.st = .saving fab.tables 0 ∧ s.store.clock ≠ .due) ∧
    (let s := stored flushing .good false .absent
     s.still ∧ s.link.stop = none ∧ s.store.st = .flushing false ⟨[], 1, 5⟩ 0 ∧ s.store.clock ≠ .due) :=
  ⟨⟨still_of (by decide), rfl, rfl, rfl, rfl, rfl⟩, ⟨still_of (by decide), by decide⟩, ⟨still_of (by decide), by decide⟩,
    ⟨still_of (by decide), rfl, rfl, by decide⟩, still_of (by decide), rfl, rfl, by decide⟩

theorem witness_LinkEventsAct :
    fab.life = .running ∧ fab.link.receive = .outside ∧
      ((receiving "@01 " false).link.receive = .inside (keptOf "@01 ") 4 false ∧ 32 ≤ (32#8).toNat ∧ (126#8).toNat ≤ 126 ∧
        126#8 ≠ 64#8 ∧ (keptOf "@01 ").length < 95 ∧ 4 < 95) ∧ fab.takesAlone ∧
      (sevenReplies.link.replies = .ok [] :: List.replicate 6 (.ok []) ∧ sevenReplies.link.sending = none) ∧
      ({ sevenReplies with link := { sevenReplies.link with sending := some 9 } } : State).link.inbound = [] :=
  ⟨rfl, rfl, by decide, alone_fab, by decide, rfl⟩

/-! ### Witnesses: inputs and timed events -/

/-- E0 is sensed and reads 1. -/
def sensing : State :=
  { fab with elems := tmod fab.elems 0 (fun x => { x with sense := some (.pos 1) }), senseLines := fab.senseLines.set 0 1#8 }

theorem witness_ReportsAndEdgesAreTimed :
    (∃ x, sensing.still ∧ sensing.senseLines[slotIndex 0 0] ≠ 2#8 ∧ sensing.elemAt 0 0 = some 0 ∧
      tget sensing.elems 0 = some x ∧ x.d.bank = 0 ∧ x.d.slot = 0 ∧ (∀ t former, x.st ≠ .moving t former) ∧
      x.sense = some (.pos 1)) ∧
    (fab.timers.ins[(0 : Fin 4)].raw ≠ true ∧ fab.timers.ins[(0 : Fin 4)].level ≠ true ∧ fab.seq = none ∧
      fab.settings.pace.gate ≠ some 0 ∧ fab.settings.inputs[(0 : Fin 4)].filter ≠ .off) ∧
    ({ fab with settings := { fab.settings with inputs := Vector.replicate 4 ⟨true, .off⟩ } } : State).settings.inputs[
      (0 : Fin 4)].filter = .off ∧
    (let s : State := { fab with timers := { fab.timers with ins := Vector.replicate 4 ⟨true, false, some 2⟩ } }
     s.still ∧ s.timers.ins[(0 : Fin 4)].raw ≠ false ∧ s.timers.ins[(0 : Fin 4)].level = false) :=
  ⟨⟨_, still_of (by decide), by decide, by decide, rfl, rfl, rfl, (fun _ _ h => by cases h), rfl⟩, by decide, by decide,
    still_of (by decide), by decide, by decide⟩

/-- A plan in MOVE watched by a handshake port, pulsing E0. -/
def pulsing : Flight :=
  { flightOf .move [⟨0, 2, .p2, .pulsing false, false⟩] with
    guard := { GuardRec.empty with handshake := true, ports := [⟨1, .both, some 0⟩, ⟨6, .handshake, none⟩] }
    banks := Vector.replicate 8 ⟨some 15000, 0⟩ }

def moving (f : Flight) : State := inFlight { fab with guard := { fab.guard with quiet := true } } f

/-- A LINK plan of P1 in GUARD. -/
def linkGuard : State :=
  inFlight (withRoutes fab .pending .idle)
    { guarding with plan := ⟨7, .link, none, [⟨.link, 1, false⟩], [], none, none⟩ }

/-- P2, whose one element is out of place, may be linked; its From node has a guard mode, with detector D0. -/
def guardFab (mode : GuardMode) (quiet present : Bool) : State :=
  { fab with
    nodes := tmod fab.nodes 1 (fun n => { n with guard := some mode })
    elems := tmod fab.elems 0 (fun x => { x with wear := ⟨0, 0, 0, false⟩ })
    guard := { fab.guard with quiet := quiet, dets := fab.guard.dets.set 0 ⟨-20, present⟩ } }

/-- A plan that moves an SS and an EML element waits in GUARD. -/
def twoGuarded : Flight :=
  { flightOf .guard [⟨2, 1, .p2, .waiting, false⟩, ⟨0, 2, .p2, .waiting, false⟩] with
    guard := { GuardRec.empty with handshake := true, watch := [(0, 1)], expiry := 100000 } }
def twoWait (quiet present : Bool) : State :=
  let s := guardFab .both quiet present
  inFlight { s with
    guard := { s.guard with planHold := true }
    elems := s.elems ++ [(2, ⟨⟨.sp2, .ss, 2, 0, [some 6, none, none], 0⟩, [[0], [0]], ⟨0, 0, 0, false⟩, some 0, .idle, none,
      none⟩)] } twoGuarded

theorem witness_GuardEventsAct :
    (∃ r x, ∀ mode quiet present, let s := guardFab mode quiet present
      tget s.routes 2 = some r ∧ r.st = .idle ∧ r.d.hops = [(0, 2)] ∧ tget s.elems 0 = some x ∧ x.st ≠ .fault ∧
        isFitted s.straps x.d.bank = true ∧ s.seq = none ∧ s.engine.flight = none ∧ s.engine.waiting = [] ∧ x.d.tech = .eml ∧
        s.supply.st = .normal ∧ x.wear.life < 99999999 ∧ x.wear.limit = 0 ∧
        ∃ n, tget s.nodes r.d.src = some n ∧ n.guard = some mode ∧ n.det = some 0) ∧
    (∀ mode ∈ [GuardMode.handshake, .sense, .both, .open_], ∀ quiet ∈ [false, true], ∀ present ∈ [false, true],
      let s := guardFab mode quiet present
      (s.hears .addressed && s.link.inbound.isEmpty && s.ready .addressed && s.instant.isNone) = true ∧
        s.inPlace 0 2 = false ∧ s.conflicting 2 = [] ∧ s.projection.length + 1 ≤ 32 ∧ 1 ≤ s.settings.waveSize[(0 : Fin 8)] ∧
        s.guard.releaseEnd = none ∧ s.guard.dets[(0 : Fin 8)].present = present ∧ s.guard.quiet = quiet) ∧
    (∃ x x2, (twoWait false false).still ∧ (twoWait true true).still ∧ twoGuarded.phase = .guard ∧
      twoGuarded.plan.kind ≠ .safe ∧ twoGuarded.holdExpired = false ∧ (2 : Nat) ≠ 0 ∧
      tget (twoWait true true).elems 2 = some x ∧ tget (twoWait true true).elems 0 = some x2 ∧ x.d.tech = .ss ∧
      x2.d.tech = .eml ∧ x.wear.limit = 0 ∧ x2.wear.limit = 0 ∧ 0 < fab.settings.settleTime .ss .p2 ∧
      (twoWait false false).guard.inhibit = true ∧ (twoWait false false).guard.quiet = false ∧
      (∀ dn ∈ twoGuarded.guard.watch, (twoWait false false).guard.dets[dn.1].present = false) ∧
      (twoWait true true).guard.inhibit = true ∧ (twoWait true true).guard.quiet = true ∧
      (∀ dn ∈ twoGuarded.guard.watch, dn.1 = 0) ∧ (twoWait true true).guard.dets[(0 : Fin 8)].present = true ∧
      readPower (-1150) < (twoWait true true).settings.threshold[(0 : Fin 8)] - 2) ∧
    (∃ x, (moving pulsing).still ∧ (moving pulsing).guard.quiet = true ∧ pulsing.phase = .move ∧
      pulsing.guard.handshake = true ∧ pulsing.guard.hotReported = false ∧
      pulsing.moves = [⟨0, 2, .p2, .pulsing false, false⟩] ∧ tget (moving pulsing).elems 0 = some x ∧ x.wear.hot < 65535 ∧
      ((pulsing.guard.ports.filter (fun g => g.mode.needsQuiet)).map (·.node)).min? = some 1) ∧
    (∃ x, linkGuard.life = .running ∧ linkGuard.engine.flight =
        some { guarding with plan := ⟨7, .link, none, [⟨.link, 1, false⟩], [], none, none⟩ } ∧
      guarding.phase = .guard ∧ guarding.checkFailed = false ∧ linkGuard.engine.waiting = [] ∧ linkGuard.seq = none ∧
      tget linkGuard.routes 1 = some x ∧ x.st = .pending) ∧
    (let s : State := { fab with guard := { fab.guard with releaseEnd := some 1000 } }
     s.still ∧ s.engine.flight = none ∧ s.guard.releaseEnd = some 1000) ∧
    (let s : State := { busy with guard := { busy.guard with releaseEnd := some 1000 } }
     s.still ∧ s.engine.flight = some guarding ∧ guarding.guard.handshake = true ∧ s.guard.quiet = false ∧
       s.guard.releaseEnd = some 1000) :=
  ⟨⟨_, _, fun _ _ _ => ⟨rfl, rfl, rfl, rfl, by decide, (by decide : isFitted resetStraps 0 = true), rfl, rfl, rfl, rfl, rfl,
      by decide, rfl, _, rfl, rfl, rfl⟩⟩,
    by decide +kernel,
    ⟨_, _, still_of (by decide), still_of (by decide), rfl, by decide, rfl, by decide, rfl, rfl, rfl, rfl, rfl, rfl, by decide,
      by decide, by decide, by decide, by decide, by decide, by decide, by decide, by decide⟩,
    ⟨_, still_of (by decide), rfl, rfl, rfl, rfl, rfl, rfl, by decide, by decide⟩,
    ⟨_, rfl, rfl, rfl, rfl, rfl, rfl, rfl, rfl⟩, ⟨still_of (by decide), rfl, rfl⟩, still_of (by decide), rfl, rfl, rfl, rfl⟩

/-- E1, of bank B1, waits to be pulsed, or its retry is due. -/
def waitingWave (p : Progress) : Flight := flightOf .move [⟨1, 1, .p2, p, false⟩]
/-- Its wave runs. -/
def runningWave : Flight :=
  { flightOf .move [⟨1, 1, .p2, .pulsing true, false⟩] with banks := (Vector.replicate 8 BankRun.fresh).set 1 ⟨some 15000, 0⟩ }

/-- The gap of E1's bank runs until 1. -/
def gapRuns : Flight := { waitingWave .waiting with banks := (Vector.replicate 8 BankRun.fresh).set 1 ⟨none, 1⟩ }
/-- The supply has just left CUT. -/
def rising (f : Flight) : State := { moving f with supply := ⟨196, .low⟩ }

theorem witness_InputLevelsAreStored :
    (fab.still ∧ fab.engine.flight = none ∧ nextSupply fab.supply.st 212 = fab.supply.st ∧
      nextSupply fab.supply.st 211 ≠ fab.supply.st) ∧
    ((moving pulsing).still ∧ (moving pulsing).engine.flight = some pulsing ∧ pulsing.phase = .move ∧
      (moving pulsing).supply.st ≠ .cut ∧ readVoltage 1910 = 191) ∧
    (let s : State := { moving (waitingWave .waiting) with supply := ⟨190, .cut⟩ }
     s.still ∧ s.engine.flight = some (waitingWave .waiting) ∧ s.supply.st = .cut ∧ readVoltage 1960 = 196 ∧
       (∀ c : Fin 8, c ≠ 1 → (rising (waitingWave .waiting)).waveDue c = none ∧ (rising (waitingWave .waiting)).retryDueAt c = none) ∧
       (rising (waitingWave .waiting)).waveDue 1 = some 0 ∧ 0 ≤ s.now) ∧
    ((∀ c : Fin 8, c ≠ 1 → (rising (waitingWave (.retryDue 5))).waveDue c = none ∧
        (rising (waitingWave (.retryDue 5))).retryDueAt c = none) ∧
      (rising (waitingWave (.retryDue 5))).retryDueAt 1 = some 0) ∧
    ∀ (b : Fin 8) (t0 : Micros), (rising gapRuns).waveDue b = some t0 ∨ (rising gapRuns).retryDueAt b = some t0 → 0 < t0 := by
  refine ⟨⟨still_of (by decide), rfl, by decide, by decide⟩, ⟨still_of (by decide), rfl, rfl, by decide, by decide⟩,
    ⟨still_of (by decide), rfl, rfl, by decide, by decide, by decide, by decide⟩, by decide, ?_⟩
  have h : ∀ b : Fin 8, ((rising gapRuns).waveDue b = none ∨ (rising gapRuns).waveDue b = some 1) ∧
    (rising gapRuns).retryDueAt b = none := by decide
  intro b t0 ht
  obtain ⟨h1, h2⟩ := h b
  rcases ht with ht | ht
  · rcases h1 with h1 | h1 <;> rw [h1] at ht <;> cases ht
    decide
  · rw [h2] at ht; cases ht

/-- E0 and E1 share bank B0, and wait for its next wave. -/
def twoInBank : State :=
  let es := tmod fab.elems 1 (fun x => { x with d := { x.d with bank := 0, slot := 1 } })
  inFlight { fab with elems := tmod es 0 (fun x => { x with wear := ⟨0, 0, 0, false⟩ }) }
    (flightOf .move [⟨0, 2, .p2, .waiting, false⟩, ⟨1, 1, .p2, .waiting, false⟩])

theorem witness_WavesRun :
    (∃ x, tget fab.elems 1 = some x ∧ x.d.tech = .eml ∧ x.d.bank = 1 ∧ fab.life = .running ∧
      ((waitingWave .waiting).phase = .move ∧ (waitingWave .waiting).banks[(1 : Fin 8)].endsAt = none ∧
        (waitingWave .waiting).holdExpired = false ∧ fab.supply.st = .normal ∧ 1 ≤ fab.settings.waveSize[(1 : Fin 8)] ∧
        x.wear.life < 99999999 ∧ x.wear.limit = 0) ∧
      (waitingWave (.retryDue 5)).banks[(1 : Fin 8)].endsAt = none ∧
      runningWave.phase = .move ∧ runningWave.banks[(1 : Fin 8)].endsAt = some 15000 ∧
        0 < fab.settings.settleTime .eml .p2) ∧
    ∃ f, twoInBank.life = .running ∧ twoInBank.engine.flight = some f ∧ f.phase = .move ∧
      f.moves.Pairwise (fun m n => m.elem < n.elem) ∧ f.banks[(0 : Fin 8)].endsAt = none ∧ f.holdExpired = false ∧
      twoInBank.supply.st ≠ .cut ∧
      (f.moves.filter (fun m => m.isWaiting && twoInBank.emInBank 0 m.elem)).take twoInBank.settings.waveSize[(0 : Fin 8)] =
        f.moves ∧ f.moves ≠ [] ∧
      ((f.moves.filter (fun m => m.isWaiting && twoInBank.emInBank 0 m.elem)).take 1).length = 1 ∧
      ∀ m ∈ f.moves, ∃ x, tget twoInBank.elems m.elem = some x ∧ x.wear.life < 99999999 ∧ x.wear.limit = 0 := by
  refine ⟨⟨_, rfl, rfl, rfl, rfl, by decide, by decide, rfl, by decide, by decide⟩,
    _, rfl, rfl, rfl, by decide, rfl, rfl, by decide, by decide, by decide, by decide, ?_⟩
  intro m hm
  simp only [flightOf, List.mem_cons, List.not_mem_nil, or_false] at hm
  rcases hm with rfl | rfl <;> exact ⟨_, rfl, by decide, rfl⟩

/-- The wave of E1 starts at 0: one pulse is counted, and it ends after 15,000 µs. -/
theorem test_wave_start :
    (match exec (.waveStart 1) (inFlight fab (waitingWave .waiting)) with
     | .next t => (t.elems.map (·.2.wear.life), t.engine.flight.map (·.banks[(1 : Fin 8)].endsAt), t.engine.drive[(8 : Fin 64)])
     | _ => ([], none, .off)) = ([0, 10], some (some 15000), .coil 1) := by decide

/-- E0, sensed at 1, is settling towards a target; E1 is being pulsed. -/
def verifying (target : Nat) (retry : Bool) : State :=
  inFlight sensing (flightOf .move [⟨0, target, .p2, .settling retry 20000, false⟩, ⟨1, 1, .p2, .pulsing false, false⟩])

theorem witness_ElementsAreVerified :
    (verifying 1 false).life = .running ∧ (verifying 1 false).claims 0 = [] ∧ Progress.pulsing false ≠ .resolved ∧ (1 : Nat) ≠ 0 ∧
      (∃ x, tget (verifying 1 false).elems 0 = some x ∧ x.sense = some (.pos 1) ∧ (verifying 1 false).reading x.d = .pos 1 ∧
        (verifying 2 false).reading x.d ≠ .pos 2 ∧ (verifying 2 true).reading x.d ≠ .pos 2) ∧
      ∃ x, tget fab.elems 0 = some x ∧ x.sense = none := ⟨rfl, by decide, by decide, by decide,
        ⟨_, rfl, rfl, by decide, by decide, by decide⟩, _, rfl, rfl⟩

/-- The LINK plan of P1 (E0 at 1) in MOVE under CUT: E0 has not begun, or its retry is due, and the other move is resolved. -/
def heldLink (prog : Progress) (former : Former) (lines : BitVec 8) : State :=
  let s := withRoutes sensing .pending .idle
  inFlight { s with
      elems := tmod s.elems 0 (fun x => { x with st := .moving 1 former })
      senseLines := s.senseLines.set 0 lines, supply := ⟨190, .cut⟩ }
    { flightOf .move [⟨0, 1, .p2, prog, false⟩, ⟨1, 1, .p2, .resolved, false⟩] with
      plan := ⟨7, .link, none, [⟨.link, 1, false⟩], [], none, none⟩, holdLimit := some 500000 }

/-- A report of E0 that differs is being counted. -/
def drifting (s : State) : State :=
  { s with elems := tmod s.elems 0 (fun x => { x with sense := some (.pos 1), counting := some (.pos 3, 2000) }) }

theorem witness_HoldLimitAndDrift :
    (∀ prog ∈ [Progress.waiting, .retryDue 9], ∀ former ∈ [Former.idle, .unknown], ∀ lines ∈ [1#8, 2#8],
      let s := heldLink prog former lines
      s.life = .running ∧ s.supply.st = .cut ∧ s.engine.waiting = [] ∧ s.seq = none ∧ s.routeState 1 = some .pending ∧
        s.elems.map (·.1) = [0, 1] ∧ s.hopsOf 1 = [(0, 1)] ∧
        ∃ f, s.engine.flight = some f ∧ f.phase = .move ∧ f.plan = ⟨7, .link, none, [⟨.link, 1, false⟩], [], none, none⟩ ∧
          f.checkFailed = false ∧ f.guardFailed = false ∧ f.holdLimit = some 500000 ∧
          f.moves.map (fun m => (m.elem, m.prog)) = [(0, prog), (1, .resolved)]) ∧
    (∃ x, (drifting fab).still ∧ tget (drifting fab).elems 0 = some x ∧ x.st = .idle ∧ x.counting = some (.pos 3, 2000) ∧
      (drifting fab).claims 0 = []) ∧
    ∃ x, (drifting busyHeld).still ∧ tget (drifting busyHeld).elems 0 = some x ∧ x.st = .idle ∧
      x.counting = some (.pos 3, 2000) ∧ (drifting busyHeld).claims 0 = [1] := by
  refine ⟨?_, ⟨_, still_of (by decide), rfl, rfl, rfl, by decide⟩, _, still_of (by decide), rfl, rfl, rfl, by decide⟩
  intro prog _ former _ lines _
  exact ⟨rfl, rfl, rfl, rfl, rfl, rfl, rfl, _, rfl, rfl, rfl, rfl, rfl, rfl, rfl⟩

/-- At the hold limit the plan is ready: the element not begun and IDLE at 1 gives HELD; one read elsewhere at its retry, or with
no known position, gives FAILED:SUPPLY. -/
theorem test_hold_limit :
    [heldLink .waiting .idle 1#8, heldLink .waiting .unknown 1#8, heldLink (.retryDue 9) .idle 1#8, heldLink (.retryDue 9) .idle 2#8].map
        (fun s => match exec .holdLimitExpiry s with
          | .next t => (tget t.routes 1).map (fun r => (r.st, r.outcome, t.now, t.engine.flight.isSome))
          | _ => none) =
      [some (.held, some .ok, 500000, false), some (.idle, some (.failed .supply), 500000, false),
        some (.held, some .ok, 500000, false), some (.idle, some (.failed .supply), 500000, false)] := by decide +kernel

theorem witness_LineTimersAct :
    (let s : State := { fab with timers := { fab.timers with ins := Vector.replicate 4 ⟨true, false, some 2⟩ } }
     s.still ∧ s.timers.ins[(3 : Fin 4)].qual = some 2 ∧ s.seq = none ∧ s.settings.pace.gate ≠ some 3) ∧
    (let s : State := { armed (.halted .wait) with timers := { fab.timers with pace := ⟨.counting 100, 10, true⟩ } }
     s.still ∧ s.seq = some ⟨0, 0, 0, .halted .wait, none, none⟩ ∧ s.timers.pace.phase = .counting 100 ∧
       s.settings.pace.mode ≠ .retrig ∧
       ({ s with settings := { s.settings with pace := ⟨.retrig, 1, some 0⟩ } } : State).settings.pace.mode = .retrig) ∧
    (let s : State := { fab with timers := { fab.timers with outs := Vector.replicate 4 (.pulse 1000) } }
     s.still ∧ s.timers.outs[(3 : Fin 4)] = .pulse 1000) :=
  ⟨⟨still_of (by decide), rfl, rfl, by decide⟩, ⟨still_of (by decide), rfl, rfl, by decide, rfl⟩, still_of (by decide), rfl⟩

/-- L3 in DWELL on a step. -/
def dwelling (l step : Nat) : State :=
  { fab with seq := some ⟨l, step, 0, .dwell, none, none⟩, timers := { fab.timers with dwell := .running 10 } }

/-- The plan of S0, linking P1 through E0, is about to be ready, or waits in GUARD; a HALT or an ABORT may be due. -/
def readying (phase : Phase) (due : Option Due) : State :=
  inFlight { withRoutes fab .pending .idle with seq := some ⟨0, 0, 0, .switching true due, none, none⟩ }
    { flightOf phase [⟨0, 1, .p2, .settling false 20000, false⟩] with
      plan := ⟨7, .step, some 0, [⟨.link, 1, false⟩], [], none, none⟩ }

theorem witness_SequencerTimersAct :
    (let s : State := { armed .waiting with timers := { fab.timers with window := .running 0 } }
     ∃ l, s.still ∧ tget s.settings.lists 0 = some l ∧ s.timers.window = .running 0 ∧ l.late ≠ 0 ∧ l.lateForce = false) ∧
    (∃ l, (early 0).still ∧ tget (early 0).settings.lists 2 = some l ∧ (early 0).timers.window = .running 0 ∧ l.late ≠ 0 ∧
      l.lateForce = true) ∧
    (∃ l st st', (dwelling 3 1).still ∧ tget fab.settings.lists 3 = some l ∧ (dwelling 3 1).timers.dwell = .running 10 ∧
      tget fab.settings.steps 1 = some st ∧ 1 < l.last ∧ tget fab.settings.steps 2 = some st' ∧ st'.src ≠ .auto) ∧
    (∃ l st st', (dwelling 3 0).still ∧ tget fab.settings.lists 3 = some l ∧ tget fab.settings.steps 0 = some st ∧
      0 < l.last ∧ tget fab.settings.steps 1 = some st' ∧ st'.src = .auto) ∧
    (∃ l st st', (dwelling 0 1).still ∧ tget fab.settings.lists 0 = some l ∧ tget fab.settings.steps 1 = some st ∧
      l.last ≤ 1 ∧ 0 + 1 < l.passes ∧ tget fab.settings.steps l.first = some st' ∧ st'.src ≠ .auto) ∧
    (∃ l st, (dwelling 3 2).still ∧ tget fab.settings.lists 3 = some l ∧ tget fab.settings.steps 2 = some st ∧
      l.last ≤ 2 ∧ l.passes ≠ 0 ∧ l.passes ≤ 0 + 1) ∧
    ∀ phase due, let s := readying phase due
      s.life = .running ∧ s.engine.waiting = [] ∧
      ∃ l st f x y, s.seq = some ⟨0, 0, 0, .switching true due, none, none⟩ ∧ tget s.settings.lists 0 = some l ∧
        tget s.settings.steps 0 = some st ∧ st.ops = [⟨.link, 1⟩] ∧ s.engine.flight = some f ∧
        f.plan = ⟨7, .step, some 0, [⟨.link, 1, false⟩], [], none, none⟩ ∧ f.checkFailed = false ∧ f.guardFailed = false ∧
        f.phase = phase ∧ f.moves = [⟨0, 1, .p2, .settling false 20000, false⟩] ∧ tget s.routes 1 = some x ∧
        x.st = .pending ∧ x.d.hops = [(0, 1)] ∧ tget s.elems 0 = some y ∧ y.sense = none ∧ st.sel = .a ∧ st.dwellA ≠ 0 :=
  ⟨⟨_, still_of (by decide), rfl, rfl, by decide, rfl⟩, ⟨_, still_of (by decide), rfl, rfl, by decide, rfl⟩,
    ⟨_, _, _, still_of (by decide), rfl, rfl, rfl, by decide, rfl, by decide⟩,
    ⟨_, _, _, still_of (by decide), rfl, rfl, by decide, rfl, by decide⟩,
    ⟨_, _, _, still_of (by decide), rfl, rfl, by decide, by decide, rfl, by decide⟩,
    ⟨_, _, still_of (by decide), rfl, rfl, by decide, by decide, by decide⟩,
    fun _ _ => ⟨rfl, rfl, _, _, _, _, _, rfl, rfl, rfl, rfl, rfl, rfl, rfl, rfl, rfl, rfl, rfl, rfl, rfl, rfl, rfl, rfl,
      by decide⟩⟩

/-- The element arrives at 20,000: DWELL for 10 µs, or HALTED with resume point DWELL, or IDLE. -/
theorem test_step_plan_ready :
    [none, some Due.halt, some Due.abort].map (fun due => match exec (.elementReady 0) (readying .move due) with
      | .next t => (t.held, t.seq.map (·.mode), t.timers.dwell)
      | _ => ([], none, .stopped)) =
    [([1], some .dwell, .running 20010), ([1], some (.halted .dwell), .stopped), ([1], none, .stopped)] := by decide +kernel

/-! ### Witness: the Held Set -/

/-- P1 is held behind a POSN plan in GUARD, and will be preempted by the waiting LINK plan of P2. -/
def heldQueue : State :=
  let s := withRoutes busy .held .pending
  { s with
    routes := tmod s.routes 1 (fun r => { r with mark := some ⟨.pre 2, 8⟩ })
    engine := { s.engine with waiting := [⟨8, .link, none, [⟨.link, 2, false⟩], [(1, .pre 2)], none, none⟩], nextId := 9 } }

theorem canonical_heldQueue : heldQueue.canonical := by
  refine ⟨⟨?_, ?_, ?_⟩, ?_, ?_, ?_⟩
  · unfold Tables.sorted tsorted; decide
  all_goals intros; contradiction

theorem checked_heldQueue : heldQueue.tables.checked := by
  have hr : ∀ kv ∈ heldQueue.tables.routes, (heldQueue.tables.derived.continuity kv.2).toOption.isSome = true := by decide +kernel
  have hs : ∀ kv ∈ heldQueue.tables.settings.steps, opsTest heldQueue.tables.derived.conflicts kv.2.ops = none := by
    decide +kernel
  refine ⟨fun p d h => ?_, fun n st h => hs _ (tget_mem h)⟩
  have h := hr _ (tget_mem h)
  cases hc : heldQueue.tables.derived.continuity d with
  | ok r => exact ⟨r.1, r.2, rfl⟩
  | error i => rw [hc] at h; cases h

theorem witness_HeldSetStaysSound :
    heldQueue.canonical ∧ heldQueue.heldSound ∧ heldQueue.held = [1] ∧ step heldQueue = .next { heldQueue with now := 1 } := by
  have idle : ∀ kv ∈ heldQueue.routes, kv.2.st = .idle → kv.2.mark = none := by decide
  have marked : ∀ kv ∈ heldQueue.routes, ∀ m ∈ kv.2.mark,
      ∃ w ∈ heldQueue.engine.waiting, w.id = m.plan ∧ (kv.1, m.kind) ∈ w.releases := by decide
  have derived : ∀ kv ∈ heldQueue.routes, heldQueue.continuity kv.2.d = .ok (kv.2.nodes, kv.2.conns) := by decide +kernel
  have place : ∀ kv ∈ heldQueue.routes, kv.1 = 1 → ∀ h ∈ kv.2.d.hops, heldQueue.inPlace h.1 h.2 = true := by decide +kernel
  have states : ∀ kv ∈ heldQueue.routes, kv.2.st = .held → kv.1 ∈ heldQueue.held := by decide
  refine ⟨canonical_heldQueue, ⟨by unfold State.holdable; decide, ?_, fun p => ⟨?_, ?_⟩, fun p x h => idle _ (tget_mem h), ?_, by decide, by decide,
    by unfold State.holdable; decide, ⟨by unfold State.holdable; decide +kernel, nofun, nofun, by unfold State.queueSound; decide +kernel⟩,
    ?_, fun _ => by decide, nofun, ⟨checked_heldQueue, ?_, ?_⟩, fun p x h => derived _ (tget_mem h),
      fun h => absurd rfl h⟩, rfl, rfl⟩
  · intro p hp x h
    exact place _ (tget_mem h) (by simpa using (show p ∈ [1] from hp))
  · intro hp
    have : p = 1 := by simpa using (show p ∈ [1] from hp)
    subst this; decide
  · intro hp
    unfold State.routeState at hp
    cases h : tget heldQueue.routes p with
    | none => rw [h] at hp; cases hp
    | some x =>
      rw [h] at hp
      exact states _ (tget_mem h) (by simpa using hp)
  · intro p x m h hm
    exact marked _ (tget_mem h) m hm
  · intro f hf m hm p hp
    have : p = 1 := by simpa using (show p ∈ [1] from hp)
    subst this
    cases hf
    simp only [guarding, flightOf, List.mem_cons, List.not_mem_nil, or_false] at hm
    subst hm; decide
  all_goals intros; contradiction

end Sys2Proof.Tests
end

