-- ==== Sys2Proof/Proofs/LossGrid.lean ====
section
/-! PROOFS. Interpolation over the frequency grid (R118): rounding halves up, the line between two points, the walk along the grid. -/

namespace Sys2Proof.Machine

/-! ### Rounding to the nearest whole value, halves up -/

/-- The whole number nearest to `num / den`, the larger of two equally near. -/
def halfUp (num den : Int) : Int := (2 * num + den) / (2 * den)

theorem halfUp_nearest {num den : Int} (hden : 0 < den) :
    den * (2 * halfUp num den - 1) ≤ 2 * num ∧ 2 * num < den * (2 * halfUp num den + 1) := by
  have below : 2 * den * halfUp num den ≤ 2 * num + den := Int.mul_ediv_self_le (by omega)
  have above : 2 * num + den < 2 * den * halfUp num den + 2 * den := Int.lt_mul_ediv_self_add (by omega)
  constructor <;> linarith

/-- Rounding does not pass a whole number that the exact quotient does not pass. -/
theorem le_halfUp {num den a : Int} (hden : 0 < den) (h : a * den ≤ num) : a ≤ halfUp num den :=
  (Int.le_ediv_iff_mul_le (by omega)).2 (by linarith)

theorem halfUp_le {num den a : Int} (hden : 0 < den) (h : num ≤ a * den) : halfUp num den ≤ a :=
  Int.lt_add_one_iff.1 ((Int.ediv_lt_iff_lt_mul (by omega)).2 (by linarith))

/-! ### The line between two grid points -/

/-- The straight line from (g, v) to (g', v') at f, times g' - g (the third row of R118 before its division). -/
def scaledLine (g v g' v' f : Nat) : Int := (v : Int) * (g' - g) + ((v' : Int) - v) * (f - g)

theorem interpolate_eq_halfUp (g v g' v' f : Nat) :
    interpolate g v g' v' f = (halfUp (scaledLine g v g' v' f) (g' - g)).toNat := rfl

/-- The line weighs its two end values by the distances to the opposite points. -/
theorem scaledLine_eq_weighted (g v g' v' f : Nat) :
    scaledLine g v g' v' f = (v : Int) * (g' - f) + (v' : Int) * (f - g) := by
  unfold scaledLine; ring

section
variable {g v g' v' f : Nat} (hl : g ≤ f) (hr : f ≤ g')
include hl hr

theorem le_scaledLine {a : Nat} (hv : a ≤ v) (hv' : a ≤ v') : (a : Int) * (g' - g) ≤ scaledLine g v g' v' f := by
  have left : (a : Int) * (g' - f) ≤ v * (g' - f) := mul_le_mul_of_nonneg_right (by omega) (by omega)
  have right : (a : Int) * (f - g) ≤ v' * (f - g) := mul_le_mul_of_nonneg_right (by omega) (by omega)
  rw [scaledLine_eq_weighted]; linarith

theorem scaledLine_le {a : Nat} (hv : v ≤ a) (hv' : v' ≤ a) : scaledLine g v g' v' f ≤ (a : Int) * (g' - g) := by
  have left : (v : Int) * (g' - f) ≤ a * (g' - f) := mul_le_mul_of_nonneg_right (by omega) (by omega)
  have right : (v' : Int) * (f - g) ≤ a * (f - g) := mul_le_mul_of_nonneg_right (by omega) (by omega)
  rw [scaledLine_eq_weighted]; linarith

end

section
variable {g v g' v' f : Nat} (hl : g < f) (hr : f < g')
include hl hr

theorem min_le_halfUp_scaledLine : ((min v v' : Nat) : Int) ≤ halfUp (scaledLine g v g' v' f) (g' - g) :=
  le_halfUp (by omega) (le_scaledLine hl.le hr.le (min_le_left v v') (min_le_right v v'))

/-- The rounded line is not negative, so `interpolate` loses nothing when it reads it as a natural number. -/
theorem interpolate_cast : (interpolate g v g' v' f : Int) = halfUp (scaledLine g v g' v' f) (g' - g) := by
  rw [interpolate_eq_halfUp]
  exact Int.toNat_of_nonneg (le_trans (Int.natCast_nonneg _) (min_le_halfUp_scaledLine hl hr))

theorem min_le_interpolate : min v v' ≤ interpolate g v g' v' f := by
  rw [← Int.ofNat_le, interpolate_cast hl hr]
  exact min_le_halfUp_scaledLine hl hr

theorem interpolate_le_max : interpolate g v g' v' f ≤ max v v' := by
  rw [← Int.ofNat_le, interpolate_cast hl hr]
  exact halfUp_le (by omega) (scaledLine_le hl.le hr.le (le_max_left v v') (le_max_right v v'))

theorem interpolate_nearest :
    ((g' : Int) - g) * (2 * interpolate g v g' v' f - 1) ≤ 2 * scaledLine g v g' v' f ∧
      2 * scaledLine g v g' v' f < ((g' : Int) - g) * (2 * interpolate g v g' v' f + 1) := by
  rw [interpolate_cast hl hr]
  exact halfUp_nearest (by omega)

end

/-! ### The walk along the grid -/

theorem ascending_iff_isChain (grid : List Nat) : ascending grid = true ↔ grid.IsChain (· < ·) := by
  induction grid with
  | nil => simp [ascending]
  | cons g gs ih => cases gs with
    | nil => simp [ascending]
    | cons g' gs => simp [ascending, ih]

/-- No point of an ascending grid lies below its first. -/
theorem head_le_of_ascending {g x : Nat} {gs : List Nat} (asc : ascending (g :: gs) = true) (hx : x ∈ g :: gs) : g ≤ x := by
  have sorted := List.pairwise_cons.1 ((ascending_iff_isChain _).1 asc).pairwise
  rcases List.mem_cons.1 hx with rfl | hx
  · exact le_rfl
  · exact (sorted.1 x hx).le

theorem lossAt_singleton (g : Nat) (v : Cdb) (vs : List Cdb) (f : Nat) : lossAt [g] (v :: vs) f = v := rfl

theorem lossAt_of_le_head {g f : Nat} {gs : List Nat} (v : Cdb) (vs : List Cdb) (h : f ≤ g) : lossAt (g :: gs) (v :: vs) f = v := by
  cases gs with
  | nil => rfl
  | cons g' gs =>
    cases vs with
    | nil => rfl
    | cons v' vs => exact if_pos h

theorem lossAt_between {g g' f : Nat} (gs : List Nat) (v v' : Cdb) (vs : List Cdb) (hl : g < f) (hr : f < g') :
    lossAt (g :: g' :: gs) (v :: v' :: vs) f = interpolate g v g' v' f := by
  rw [lossAt, if_neg hl.not_ge, if_pos hr]

theorem lossAt_past_second {g g' f : Nat} (gs : List Nat) (v v' : Cdb) (vs : List Cdb) (hg : g < g') (h : g' ≤ f) :
    lossAt (g :: g' :: gs) (v :: v' :: vs) f = lossAt (g' :: gs) (v' :: vs) f := by
  rw [lossAt, if_neg (hg.trans_le h).not_ge, if_neg h.not_gt]

/-- From a grid point at or below f on, the points before it do not count. -/
theorem lossAt_drop {grid : List Nat} {vs : List Cdb} {f i g : Nat} (asc : ascending grid = true)
    (len : vs.length = grid.length) (hg : grid[i]? = some g) (hf : g ≤ f) :
    lossAt grid vs f = lossAt (grid.drop i) (vs.drop i) f := by
  induction i generalizing grid vs with
  | zero => rfl
  | succ i ih =>
    match grid, vs with
    | a :: b :: gs, v :: v' :: vs =>
      obtain ⟨hab, asc'⟩ : a < b ∧ ascending (b :: gs) = true := by simpa [ascending] using asc
      have hi : (b :: gs)[i]? = some g := by simpa using hg
      have hb : b ≤ g := head_le_of_ascending asc' (List.mem_of_getElem? hi)
      calc lossAt (a :: b :: gs) (v :: v' :: vs) f
        _ = lossAt (b :: gs) (v' :: vs) f := lossAt_past_second gs v v' vs hab (hb.trans hf)
        _ = lossAt ((b :: gs).drop i) ((v' :: vs).drop i) f := ih asc' (by simpa using len) hi

theorem drop_eq_cons_of_getElem? {α : Type} {l : List α} {i : Nat} {a : α} (h : l[i]? = some a) :
    l.drop i = a :: l.drop (i + 1) := by
  obtain ⟨hi, rfl⟩ := List.getElem?_eq_some_iff.1 h
  exact List.drop_eq_getElem_cons hi

section
variable {grid : List Nat} {vs : List Cdb} {f : Nat}

theorem lossAt_of_le_first {g : Nat} {v : Cdb} (hg : grid.head? = some g) (hv : vs.head? = some v) (h : f ≤ g) :
    lossAt grid vs f = v := by
  obtain ⟨gs, rfl⟩ := List.head?_eq_some_iff.1 hg
  obtain ⟨vs', rfl⟩ := List.head?_eq_some_iff.1 hv
  exact lossAt_of_le_head v vs' h

variable (asc : ascending grid = true) (len : vs.length = grid.length)
include asc len

theorem lossAt_of_last_le {g : Nat} {v : Cdb} (hg : grid.getLast? = some g) (hv : vs.getLast? = some v) (h : g ≤ f) :
    lossAt grid vs f = v := by
  rw [List.getLast?_eq_getElem?] at hg hv
  have hlt := (List.getElem?_eq_some_iff.1 hg).1
  have last : grid.drop (grid.length - 1 + 1) = [] := List.drop_of_length_le (by omega)
  rw [lossAt_drop asc len hg h, drop_eq_cons_of_getElem? hg, last, drop_eq_cons_of_getElem? (len ▸ hv), lossAt_singleton]

theorem lossAt_gridPoint {i : Nat} {v : Cdb} (hg : grid[i]? = some f) (hv : vs[i]? = some v) : lossAt grid vs f = v := by
  rw [lossAt_drop asc len hg le_rfl, drop_eq_cons_of_getElem? hg, drop_eq_cons_of_getElem? hv, lossAt_of_le_head _ _ le_rfl]

theorem lossAt_eq_interpolate {i g g' : Nat} {v v' : Cdb} (hg : grid[i]? = some g) (hg' : grid[i + 1]? = some g')
    (hv : vs[i]? = some v) (hv' : vs[i + 1]? = some v') (hl : g < f) (hr : f < g') :
    lossAt grid vs f = interpolate g v g' v' f := by
  rw [lossAt_drop asc len hg hl.le, drop_eq_cons_of_getElem? hg, drop_eq_cons_of_getElem? hg', drop_eq_cons_of_getElem? hv,
    drop_eq_cons_of_getElem? hv', lossAt_between _ _ _ _ hl hr]

end

/-- Settles O36: the walk along the grid reduces each row of R118 to the list that begins at its own point, and between two points
the line weighs two end values, so that rounding it cannot leave them. -/
theorem lossInterpolatesTheGrid : Obligations.LossInterpolatesTheGrid := by
  intro grid vs f asc len
  refine ⟨fun g v => lossAt_of_le_first, fun g v => lossAt_of_last_le asc len, fun i v => lossAt_gridPoint asc len, ?_⟩
  intro i g g' v v' hg hg' hv hv' hl hr
  dsimp only
  rw [lossAt_eq_interpolate asc len hg hg' hv hv' hl hr]
  exact ⟨min_le_interpolate hl hr, interpolate_le_max hl hr, interpolate_nearest hl hr⟩

end Sys2Proof.Machine
end

