-- ==== Sys2Proof/Proofs/StepsAndLists.lean ====
section
/-! PROOFS. Reading and deleting steps and lists (R127, R128, R131, R132): a command on one numbered record, the commands that
read one and that delete one, the lowest undefined step of a list. -/

namespace Sys2Proof.Machine

/-! ### A command on one numbered record of a table -/

section
variable {α : Type} {k : IdKind} {inRange : Nat → Bool} {n : Nat} {t : Table α} {s : State} {go : Nat → α → Answer}

@[simp] theorem asId_aId (k : IdKind) (n : Nat) : asId k (aId k n) = some n := if_pos rfl

theorem onRecord_outside (out : inRange n = false) :
    oneId k inRange [aId k n] s (fun m => defined t m s (go m)) = (.nak .range [], s) := by
  simp [oneId, out, nak]

theorem onRecord_undefined (inside : inRange n = true) (undef : tget t n = none) :
    oneId k inRange [aId k n] s (fun m => defined t m s (go m)) = (.nak .noId [], s) := by
  simp [oneId, defined, inside, undef, nak]

theorem onRecord_defined {x : α} (inside : inRange n = true) (deft : tget t n = some x) :
    oneId k inRange [aId k n] s (fun m => defined t m s (go m)) = go n x := by
  simp [oneId, defined, inside, deft]

end

/-! ### What asks for an idle sequencer -/

theorem seqIdle_iff {s : State} : s.seqIdle = true ↔ s.seq = none := Option.isNone_iff_eq_none

theorem unlessIdle_of_armed {s : State} {a b : Answer} (armed : s.seq ≠ none) : (if !s.seqIdle then a else b) = a := by
  simp [seqIdle_iff, armed]

theorem unlessIdle_of_idle {s : State} {a b : Answer} (idle : s.seq = none) : (if !s.seqIdle then a else b) = b := by
  simp [seqIdle_iff, idle]

/-! ### Rows that read or delete one record -/

/-- Settings make nothing due. -/
theorem calm_settings {s : State} (new : Settings) (h : s.calm) : ({ s with settings := new } : State).calm :=
  calm_congr (s := s) rfl rfl rfl rfl h

section
variable {α : Type} {k : IdKind} {inRange : Nat → Bool} {n : Nat} {t : Table α} {s : State} {c : Instr} {cmd : State → Answer}
  (alone : s.takesAlone) (via : c.via = .addressed) (row : exec c s = .next (s.receive c cmd))
include alone via row

/-- The row of a record taken alone whose command leaves nothing due: the command's own effect and its reply. -/
theorem exec_of_answer {u : State} {r : Reply} (calm : u.calm) (answer : cmd s = (r, u)) :
    exec c s = .next (u.reply .addressed r) := by
  rw [row, receive_alone (via ▸ alone.1) answer calm, via]

/-- A command that reads one record (R127, R131). -/
theorem exec_readRecord {vals : α → List Val}
    (reads : cmd s = oneId k inRange [aId k n] s (fun m => defined t m s (fun x => okWith (vals x) s))) :
    (inRange n = false → exec c s = .next (s.reply .addressed (.nak .range []))) ∧
      (inRange n = true → tget t n = none → exec c s = .next (s.reply .addressed (.nak .noId []))) ∧
      ∀ x, inRange n = true → tget t n = some x → exec c s = .next (s.reply .addressed (.ok (vals x))) := by
  have answers {r : Reply} := exec_of_answer (r := r) alone via row alone.2
  refine ⟨fun out => answers ?_, fun inside undef => answers ?_, fun x inside deft => answers ?_⟩
  · exact reads.trans (onRecord_outside out)
  · exact reads.trans (onRecord_undefined inside undef)
  · exact reads.trans (onRecord_defined inside deft)

/-- A command that deletes one record, leaving the settings `new n`; refused while a list is armed (R128, R132). -/
theorem exec_deleteRecord {new : Nat → Settings}
    (deletes : cmd s = oneId k inRange [aId k n] s (fun m => defined t m s (fun _ =>
      if !s.seqIdle then nak .seqActive s else okay { s with settings := new m }))) :
    (inRange n = false → exec c s = .next (s.reply .addressed (.nak .range []))) ∧
      (inRange n = true → tget t n = none → exec c s = .next (s.reply .addressed (.nak .noId []))) ∧
      (∀ x, inRange n = true → tget t n = some x → s.seq ≠ none →
        exec c s = .next (s.reply .addressed (.nak .seqActive []))) ∧
      ∀ x, inRange n = true → tget t n = some x → s.seq = none →
        exec c s = .next (({ s with settings := new n } : State).reply .addressed (.ok [])) := by
  have answers {r : Reply} := exec_of_answer (r := r) alone via row alone.2
  refine ⟨fun out => answers ?_, fun inside undef => answers ?_, fun x inside deft armed => answers ?_,
    fun x inside deft idle => exec_of_answer alone via row (calm_settings (new n) alone.2) ?_⟩
  · exact deletes.trans (onRecord_outside out)
  · exact deletes.trans (onRecord_undefined inside undef)
  · exact deletes.trans ((onRecord_defined inside deft).trans (unlessIdle_of_armed armed))
  · exact deletes.trans ((onRecord_defined inside deft).trans (unlessIdle_of_idle idle))

end

/-! ### The lowest undefined step of a list -/

section
variable {s : State} {l : ListRec} {n k : Nat}

/-- A list whose range holds an undefined step is missing one. -/
theorem exists_missingStep (inside : n < 256) (first : l.first ≤ n) (last : n ≤ l.last)
    (undef : tget s.settings.steps n = none) : ∃ k, s.missingStep l = some k := by
  refine Option.isSome_iff_exists.1 (List.find?_isSome.2 ⟨n, ?_, ?_⟩)
  · simp [inside, first, last]
  · simp [undef]

/-- The step a list is missing is in its range and undefined, and every lower step of the range is defined. -/
theorem missingStep_lowest (missing : s.missingStep l = some k) :
    l.first ≤ k ∧ k ≤ l.last ∧ tget s.settings.steps k = none ∧
      ∀ j, l.first ≤ j → j < k → (tget s.settings.steps j).isSome = true := by
  simp only [State.missingStep, List.find?_filter, List.find?_range_eq_some, decide_eq_true_eq, Option.isNone_iff_eq_none,
    Bool.not_eq_true', decide_eq_false_iff_not] at missing
  obtain ⟨⟨⟨first, last⟩, undef⟩, -, below⟩ := missing
  refine ⟨first, last, undef, fun j hj hk => Option.isSome_iff_ne_none.2 fun undefd => below j hk ⟨⟨hj, ?_⟩, undefd⟩⟩
  omega

end

/-- ARM of a list that is missing a step, with nothing armed and no plan queued (R135). -/
theorem cmdArm_missing {s : State} {l k : Nat} {r : ListRec} (inside : inList l = true) (deft : tget s.settings.lists l = some r)
    (idle : s.seq = none) (flight : s.engine.flight = none) (waiting : s.engine.waiting = [])
    (missing : s.missingStep r = some k) : cmdArm [aId .l l] s = (.nak .noId (vStep k), s) := by
  refine (onRecord_defined inside deft).trans ((unlessIdle_of_idle idle).trans ?_)
  simp [flight, waiting, missing, nakWith]

/-- Settles O38: the queries are rows that read one record and the deletions rows that delete one, and the step the refused ARM
names is the lowest one missing. -/
theorem listsAndStepsAreReadAndDeleted : Obligations.ListsAndStepsAreReadAndDeleted := by
  intro s n alone
  obtain ⟨stepOut, stepUndef, stepRead⟩ := exec_readRecord (c := .stepQuery [aId .s n]) alone rfl rfl rfl
  obtain ⟨listOut, listUndef, listRead⟩ := exec_readRecord (c := .listQuery [aId .l n]) alone rfl rfl rfl
  have ldelRows := exec_deleteRecord (c := .ldel [aId .l n]) alone rfl rfl rfl
  obtain ⟨sdelOut, sdelUndef, sdelArmed, sdelIdle⟩ := exec_deleteRecord (c := .sdel [aId .s n]) alone rfl rfl rfl
  refine ⟨⟨stepOut, stepUndef, stepRead, listOut, listUndef, fun r inside deft => ?_⟩, ldelRows,
    sdelOut, sdelUndef, sdelArmed, sdelIdle, fun l r inside undef insideList deft first last idle flight waiting => ?_⟩
  · rw [listRead r inside deft]
    cases r.freq <;> rfl
  · obtain ⟨k, missing⟩ := exists_missingStep (by simpa [inStep] using inside) first last undef
    obtain ⟨hfirst, -, hundef, below⟩ := missingStep_lowest missing
    have answer := cmdArm_missing insideList deft idle flight waiting missing
    refine ⟨k, hfirst, Nat.le_of_not_lt fun lt => ?_, hundef, below, exec_of_answer alone rfl rfl alone.2 answer⟩
    simpa [undef] using below n first lt

end Sys2Proof.Machine
end
-- ==== Sys2Proof/Proofs/HeldSet.lean ====
section
/-! PROOFS. The Held Set as an invariant: a list whose step links a route that is not defined. -/

namespace Sys2Proof.Machine

/-! ### A step that links an undefined route

`State.heldSound` asks that the ops of a step pass the test of R124, which a route that is not defined always passes, and that at
the end of the Plan Queue every route that may be held is defined and carries no mark. Nothing asks that a step's routes are
defined, as R125 and R32 keep them. So a list armed on such a step puts the undefined route into the Plan Queue. -/

/-- Step S0 links P2, which is not defined, and P1, whose one element stands out of place. ARM of L0 is received. -/
def danglingStep : State := { State.reset with
  nodes := [(0, ⟨.instr, none, some .open_, []⟩), (1, ⟨.ant, none, none, []⟩)]
  elems := [(0, ⟨⟨.sp2, .eml, 0, 0, [some 0, some 1, none], 0⟩, [[0], [0]], ⟨0, 0, 0, false⟩, some 0, .idle, none, none⟩)]
  routes := [(1, ⟨⟨0, 1, [(0, 1)], .p1⟩, [0, 1], [⟨1, 0⟩], .idle, none, none⟩)]
  settings := { Settings.defaults with
    steps := [(0, ⟨[⟨.link, 2⟩, ⟨.link, 1⟩], .auto, 0, 0, .a, none, none, false⟩)]
    lists := [(0, ⟨0, 0, 1, 0, false, false, 0, 0, none⟩)] }
  pending := [.arm [aId .l 0]] }

/-- What ARM leaves: the step's plan is in MOVE, and will link P2 and P1. -/
def danglingFlight : State := ({ danglingStep with pending := [] } : State).receive (.arm [aId .l 0]) (cmdArm [aId .l 0])

theorem step_danglingStep : step danglingStep = .next danglingFlight := rfl

theorem danglingStep_canonical : danglingStep.canonical := by
  refine ⟨⟨?_, ?_, ?_⟩, ?_, ?_, ?_⟩
  · unfold Tables.sorted tsorted; decide
  all_goals intros; contradiction

theorem danglingStep_checked : danglingStep.tables.checked := by
  have walks : ∀ kv ∈ danglingStep.tables.routes, danglingStep.tables.derived.continuity kv.2 = .ok ([0, 1], [⟨1, 0⟩]) := by
    decide +kernel
  have steps : ∀ kv ∈ danglingStep.tables.settings.steps, opsTest danglingStep.tables.derived.conflicts kv.2.ops = none := by
    decide +kernel
  exact ⟨fun p d h => ⟨_, _, walks _ (tget_mem h)⟩, fun n st h => steps _ (tget_mem h)⟩

theorem danglingStep_heldSound : danglingStep.heldSound := by
  have idle : ∀ kv ∈ danglingStep.routes, kv.2.st = .idle ∧ kv.2.mark = none := by decide
  have walks : ∀ kv ∈ danglingStep.routes, danglingStep.continuity kv.2.d = .ok (kv.2.nodes, kv.2.conns) := by decide +kernel
  have held : danglingStep.held = [] := rfl
  have alone : danglingStep.holdable [] := by unfold State.holdable; decide
  constructor
  case together => exact alone
  case inPlace => simp [held]
  case states =>
    refine fun p => ⟨by simp [held], fun h => ?_⟩
    obtain ⟨x, hx, hst⟩ := Option.map_eq_some_iff.1 h
    cases hst.symm.trans (idle _ (tget_mem hx)).1
  case idle => exact fun p x h _ => (idle _ (tget_mem h)).2
  case marked => exact fun p x m h hm => nomatch hm.symm.trans (idle _ (tget_mem h)).2
  case numbered => decide
  case linkedOnce => decide
  case flight => exact alone
  case waiting => exact nofun
  case moving => simp [held]
  case unarmed => exact fun _ => by decide
  case armed => exact nofun
  case defined => exact ⟨danglingStep_checked, nofun, nofun⟩
  case derived => exact fun p x h => walks _ (tget_mem h)
  case stopped => exact fun h => absurd rfl h

/-- Refutes O60: ARM of a list whose step links an undefined route leaves that route among those to be held, where
`State.queueSound` asks for a defined one. -/
theorem not_heldSetStaysSound : ¬ Obligations.HeldSetStaysSound := by
  intro stays
  have sound : danglingFlight.heldSound :=
    stays _ _ danglingStep_canonical danglingStep_heldSound step_danglingStep
  have next : danglingFlight.heldNext = [2, 1] ∧ danglingFlight.engine.waiting = [] := by decide +kernel
  have unmarked := sound.waiting
  rw [next.1, next.2] at unmarked
  have undefined : danglingFlight.unmarked 2 = false := by decide +kernel
  exact absurd (unmarked 2 (by simp)) (by simp [undefined])

end Sys2Proof.Machine
end
-- ==== Sys2Proof/Proofs/StoredRanges.lean ====
section
/-! PROOFS. The ranges of stored values as an invariant: a table that lists an element twice. -/

namespace Sys2Proof.Machine

/-! ### An element listed twice

`Tables.legal` and `State.wearLegal` bound every record listed, and do not ask for tables in canonical form. The life count is
stopped at its bound by the record that is read, and raised in every record listed (`State.countPulse`, `tmod`). -/

/-- A record of E0 with a life count. -/
def switchWorn (life : Nat) : Element :=
  ⟨⟨.sp2, .eml, 0, 0, [none, none, none], 0⟩, [[0], [0]], ⟨life, 0, 0, false⟩, some 0, .idle, none, none⟩

/-- A POSN plan in MOVE that is to move E0 and has not begun. -/
def moveOfE0 : Flight :=
  ⟨⟨0, .posn, none, [], [], some ⟨0, 1, false⟩, some .p2⟩, .move, 0, [⟨0, 1, .p2, .waiting, false⟩], .empty, false, false, false,
    none, Vector.replicate 8 .fresh⟩

/-- E0 is listed a second time with its life count at the bound, and its bank may start a wave. WAVE_START is the next command. -/
def listedTwice : State := { State.reset with
  elems := [(0, switchWorn 0), (0, switchWorn 99999999)]
  engine := { Engine.blank with flight := some moveOfE0 }
  pending := [.waveStart 0] }

theorem defaults_legal : Settings.defaults.legal := by
  refine ⟨by decide, by decide, fun k p => ?_, by decide, by decide, by decide, by decide, nofun, nofun, by decide, ?_⟩
  · cases k <;> cases p <;> decide
  · unfold PaceSetting.legal; decide

theorem listedTwice_legal : listedTwice.everyTables Tables.legal := by
  refine ⟨⟨nofun, ?_, nofun, defaults_legal⟩, nofun, nofun⟩
  unfold ElemDef.legal; decide

theorem listedTwice_wearLegal : listedTwice.wearLegal := by
  refine ⟨⟨?_, nofun, nofun⟩, nofun, nofun, nofun⟩
  unfold Wear.legal; decide

/-- What the wave leaves. -/
def listedTwicePulsed : State := ({ listedTwice with pending := [], now := 0 } : State).during (fun t => (t.at 0).startWave 0)

theorem step_listedTwice : step listedTwice = .next listedTwicePulsed := rfl

/-- Refutes O9: a pulse of an element listed twice, its second record at the bound of the life count, passes that bound. -/
theorem not_storedValuesStayInRange : ¬ Obligations.StoredValuesStayInRange := by
  intro stays
  have legal := stays _ _ ⟨listedTwice_legal, listedTwice_wearLegal⟩ step_listedTwice
  have worn : (0, ⟨(switchWorn 0).d, [[0], [0]], ⟨100000000, 0, 0, false⟩⟩) ∈ listedTwicePulsed.tables.elems := by
    decide +kernel
  exact absurd (legal.2.1.1 _ worn).1 (by decide)

end Sys2Proof.Machine
end
-- ==== Sys2Proof/Proofs/Work.lean ====
section
/-! PROOFS. The engine's own work: what waves, hot events, verification, withdrawal, the cut and the release of routes do, as chains of
single changes. None of them touches the sequencer, its timers, the guard or the Plan Queue, and the plan in flight stays the plan it
is. -/

namespace Sys2Proof.Machine

/-- What the engine reaches by its own work: a notice, a wear mark, a record of an element or a route with its definition kept, a route
leaving the Held Set, a slot's drive, and the progress of the plan in flight. -/
inductive Work (s : State) : State → Prop
  | refl : Work s s
  | notify {t : State} {k : NoticeKind} {a b : Val} (h : Work s t) : Work s (t.notify k a b)
  | wear {t : State} {m : Bool} {c : FlushClock} (h : Work s t) : Work s { t with store := { t.store with mark := m, clock := c } }
  | elem {t : State} {e : Nat} {f : Element → Element} (h : Work s t)
      (keeps : ∀ x, (f x).d = x.d ∧ (f x).losses = x.losses := by intro x; simp) : Work s (t.modElem e f)
  | route {t : State} {r : Nat} {f : Route → Route} (h : Work s t)
      (keeps : ∀ x, (f x).d = x.d ∧ (f x).nodes = x.nodes ∧ (f x).conns = x.conns := by intro x; simp) : Work s (t.modRoute r f)
  | unheld {t : State} {l : List Nat} (h : Work s t) (fewer : l.Sublist t.held) : Work s { t with held := l }
  | drive {t : State} {d : Vector SlotDrive 64} (h : Work s t) : Work s { t with engine := { t.engine with drive := d } }
  | flight {t : State} {f g : Flight} (h : Work s t) (flying : t.engine.flight = some f) (plan : g.plan = f.plan) :
      Work s (t.setFlight g)

/-- Work follows on work. -/
theorem Work.trans {s t u : State} (h : Work s t) (g : Work t u) : Work s u := by
  induction g with
  | refl => exact h
  | notify _ ih => exact ih.notify
  | wear _ ih => exact ih.wear
  | elem _ keeps ih => exact ih.elem keeps
  | route _ keeps ih => exact ih.route keeps
  | unheld _ fewer ih => exact ih.unheld fewer
  | drive _ ih => exact ih.drive
  | flight _ flying plan ih => exact ih.flight flying plan

/-- A fold of steps that are each work. -/
theorem foldl_work {α : Type} {f : State → α → State} (h : ∀ s a, Work s (f s a)) (l : List α) (s : State) :
    Work s (l.foldl f s) := by
  induction l generalizing s with
  | nil => exact .refl
  | cons a l ih => exact (h s a).trans (ih _)

/-- Either branch of a test is work. -/
theorem ite_work {s t u : State} {c : Prop} [Decidable c] (ht : Work s t) (hu : Work s u) : Work s (if c then t else u) := by
  split <;> assumption

/-- What a fold of steps leaves of a part that each step leaves. -/
theorem foldl_keeps {α β : Type} (part : State → β) {f : State → α → State} (l : List α) (s : State)
    (h : ∀ s a, part (f s a) = part s := by intros; rfl) : part (l.foldl f s) = part s := by
  induction l generalizing s with
  | nil => rfl
  | cons a l ih => rw [List.foldl_cons, ih, h]

/-! ### What work leaves alone -/

section
variable {s t : State} (h : Work s t)
include h

theorem Work.kept : t.kept = s.kept := by
  induction h with
  | elem _ keeps ih => exact (modElem_kept _ _ _ keeps).trans ih
  | route _ keeps ih => exact (modRoute_kept _ _ _ keeps).trans ih
  | refl => rfl
  | _ => assumption

theorem Work.seq : t.seq = s.seq := by
  induction h with
  | refl => rfl
  | _ => assumption

theorem Work.timers : t.timers = s.timers := by
  induction h with
  | refl => rfl
  | _ => assumption

theorem Work.guard : t.guard = s.guard := by
  induction h with
  | refl => rfl
  | _ => assumption

theorem Work.waiting : t.engine.waiting = s.engine.waiting := by
  induction h with
  | refl => rfl
  | _ => assumption

theorem Work.nextId : t.engine.nextId = s.engine.nextId := by
  induction h with
  | refl => rfl
  | _ => assumption

/-- Routes only leave the Held Set. -/
theorem Work.held : t.held.Sublist s.held := by
  induction h with
  | refl => exact List.Sublist.refl _
  | unheld _ fewer ih => exact fewer.trans ih
  | _ => assumption

/-- The plan in flight stays the plan it is. -/
theorem Work.plan : t.engine.flight.map (·.plan) = s.engine.flight.map (·.plan) := by
  induction h with
  | refl => rfl
  | flight _ flying plan ih => rw [← ih, flying]; exact congrArg some plan
  | _ => assumption

end

/-! ### Wear, routes and elements -/

section
variable (s : State)

theorem markWear_work : Work s s.markWear := Work.refl.wear

theorem lifeTest_work (e : Nat) : Work s (s.lifeTest e) := by
  unfold State.lifeTest
  split
  · exact ite_work (Work.refl.elem.notify) .refl
  · exact .refl

theorem countPulse_work (e : Nat) : Work s (s.countPulse e) := by
  unfold State.countPulse
  split
  · exact ite_work ((Work.refl.elem.trans (markWear_work _)).trans (lifeTest_work _ e))
      (lifeTest_work s e)
  · exact .refl

theorem countHot_work (e : Nat) : Work s (s.countHot e) := by
  unfold State.countHot
  split
  · exact ite_work (Work.refl.elem.trans (markWear_work _)) .refl
  · exact .refl

theorem setDrive_work (d : ElemDef) (v : SlotDrive) : Work s (s.setDrive d v) := Work.refl.drive
theorem markRoutes_work (id : Nat) (rs : List (Nat × MarkKind)) : Work s (s.markRoutes id rs) :=
  foldl_work (fun t rk => Work.refl.route) rs s

theorem dropRoute_work (r : Nat) (o : LinkOutcome) : Work s (s.dropRoute r o) :=
  Work.refl.route.unheld (List.filter_sublist ..)

theorem dropRoutes_work (rs : List Nat) (o : LinkOutcome) : Work s (rs.foldl (fun t r => t.dropRoute r o) s) :=
  foldl_work (fun t r => dropRoute_work t r o) rs s

theorem breakRoute_work (c : Cause) (r : Nat) : Work s (State.breakRoute c s r) :=
  (dropRoute_work s r _).notify

theorem breakClaims_work (c : Cause) (e : Nat) : Work s (s.breakClaims c e) :=
  foldl_work (fun t r => breakRoute_work t c r) _ s

theorem modFlight_work {g : Flight → Flight} (plan : ∀ f, (g f).plan = f.plan := by intro f; rfl) : Work s (s.modFlight g) := by
  unfold State.modFlight
  split
  next f flying => exact Work.refl.flight flying (plan f)
  · exact .refl

theorem applyRelease_work (id : Nat) (rk : Nat × MarkKind) : Work s (applyRelease id s rk) := by
  unfold applyRelease
  split
  · refine ite_work (ite_work ?_ Work.refl.route) .refl
    split
    · exact dropRoute_work s _ _
    · exact dropRoute_work s _ _
    · exact breakRoute_work s _ _
  · exact .refl

theorem releasePhase_work (p : Plan) : Work s (s.releasePhase p) := by
  unfold State.releasePhase
  refine Work.trans ?_ (foldl_work (fun t rk => applyRelease_work t p.id rk) _ _)
  split
  · exact ite_work (breakClaims_work s _ _) .refl
  · exact .refl

/-! ### Waves, hot events and verification -/

theorem driveElem_work (e : Nat) (v : Tech → SlotDrive) : Work s (s.driveElem e v) := by
  unfold State.driveElem
  split
  · exact setDrive_work s _ _
  · exact .refl

theorem pulseMember_work (b : Bool) (m : Move) : Work s (pulseMember b s m) :=
  ((driveElem_work s _ _).trans (countPulse_work _ _)).trans (modFlight_work _)

theorem runWave_work (b : Fin 8) (r : Bool) (ms : List Move) : Work s (s.runWave b r ms) :=
  (foldl_work (fun t m => pulseMember_work t r m) ms s).trans (modFlight_work _)

theorem startWave_work (b : Fin 8) : Work s (s.startWave b) := by
  unfold State.startWave
  split
  · exact runWave_work s _ _ _
  · exact .refl

theorem startRetry_work (b : Fin 8) : Work s (s.startRetry b) := by
  unfold State.startRetry
  split
  · split
    · exact runWave_work s _ _ _
    · exact .refl
  · exact .refl

theorem startBank_work (b : Fin 8) : Work s (startBank s b) := by
  unfold startBank
  split
  · exact ite_work (startWave_work s b) .refl
  · split
    · exact ite_work (startRetry_work s b) .refl
    · exact .refl

theorem startBanks_work : Work s s.startBanks := foldl_work startBank_work _ s

theorem chargeExposed_work : Work s s.chargeExposed := by
  unfold State.chargeExposed
  split
  · exact (foldl_work (fun (t : State) (m : Move) => countHot_work t m.elem) _ s).trans (modFlight_work _)
  · exact .refl

theorem hotEvent_work (n : Nat) (c : String) : Work s (s.hotEvent n c) := by
  unfold State.hotEvent
  split
  next f flying =>
    refine Work.trans ?_ (chargeExposed_work _)
    exact ite_work .refl (Work.refl.notify.flight flying rfl)
  · exact .refl

theorem rfAppeared_work (d : Fin 8) : Work s (s.rfAppeared d) := by
  unfold State.rfAppeared
  split
  · refine ite_work ?_ .refl
    split
    · exact hotEvent_work s _ _
    · exact .refl
  · exact .refl

theorem quietFell_work : Work s s.quietFell := by
  unfold State.quietFell
  split
  · refine ite_work ?_ .refl
    split
    · exact hotEvent_work s _ _
    · exact .refl
  · exact .refl

theorem resolve_work (e : Nat) : Work s (s.resolve e) := modFlight_work s

theorem modElem_resolve_work (e : Nat) {f : Element → Element} (keeps : ∀ x, (f x).d = x.d ∧ (f x).losses = x.losses) :
    Work s ((s.modElem e f).resolve e) := (Work.refl.elem keeps).trans (resolve_work _ e)

theorem verify_work (e t : Nat) (r : Bool) : Work s (s.verify e t r) := by
  unfold State.verify
  split
  · exact resolve_work s e
  · refine ite_work (modElem_resolve_work s e fun _ => ⟨rfl, rfl⟩)
      (ite_work (modElem_resolve_work s e fun _ => ⟨rfl, rfl⟩) (ite_work ?_ (modFlight_work s)))
    exact ((Work.refl.elem.notify).trans (breakClaims_work _ _ _)).trans
      (resolve_work _ _)

theorem verifyReadyNow_work (es : List Nat) : Work s (s.verifyReadyNow es) := by
  refine foldl_work (fun t e => ?_) es s
  split
  · split
    · split
      · exact ite_work (verify_work _ _ _ _) .refl
      · exact .refl
    · exact .refl
  · exact .refl

theorem driveSs_work (m : Move) : Work s (driveSs s m) :=
  ite_work (((driveElem_work s _ _).trans (countPulse_work _ _)).trans (modFlight_work _)) .refl

theorem startMovings_work (ms : List Move) : Work s (ms.foldl (fun t m => t.modElem m.elem (startMoving m.target)) s) :=
  foldl_work (fun t m => Work.refl.elem) ms s

theorem enterMove_work : Work s s.enterMove := by
  unfold State.enterMove
  split
  · exact .refl
  next f flying =>
    have started (g : Flight) (plan : g.plan = f.plan) : Work s (f.moves.foldl driveSs
        (f.moves.foldl (fun t m => t.modElem m.elem (startMoving m.target)) (s.setFlight g))).startBanks :=
      ((((Work.refl (s := s)).flight flying plan).trans (startMovings_work _ _)).trans (foldl_work driveSs_work _ _)).trans (startBanks_work _)
    have judged (g : Flight) (plan : g.plan = f.plan) (watch : List (Fin 8 × Nat)) := (started g plan).trans
      (foldl_work (fun t (dn : Fin 8 × Nat) => hotEvent_work t dn.2 "RF") watch _)
    exact (ite_work (judged _ (by rfl) _) (started _ (by rfl))).trans (verifyReadyNow_work _ _)

/-! ### Notices of plan ready, withdrawal, the cut and the end of a wave -/

theorem opNotice_work (f : Flight) (o : PlanOp) (c : Option Cause) : Work s (s.opNotice f o c) := by
  unfold State.opNotice
  split
  · exact Work.refl.notify
  · exact ite_work Work.refl.notify .refl

theorem reportPlan_work (f : Flight) : Work s (s.reportPlan f) := by
  unfold State.reportPlan
  split
  · split <;> exact Work.refl.notify
  · exact Work.refl.notify
  · exact .refl

theorem withdrawMove_work (m : Move) : Work s (withdrawMove s m) := by
  unfold withdrawMove
  split
  · exact resolve_work s _
  · split
    · exact modElem_resolve_work s _ fun _ => ⟨withdrawUnpulsed_d _ _, withdrawUnpulsed_losses _ _⟩
    · exact ite_work (modElem_resolve_work s _ fun _ => ⟨rfl, rfl⟩)
        (modElem_resolve_work s _ fun _ => ⟨withdrawPulsed_d _ _, withdrawPulsed_losses _ _⟩)
    · exact modElem_resolve_work s _ fun _ => ⟨withdrawPulsed_d _ _, withdrawPulsed_losses _ _⟩
    · exact .refl

theorem cutFlight_work : Work s s.cutFlight := by
  unfold State.cutFlight
  split
  · exact .refl
  next f flying =>
    refine ite_work .refl ?_
    have dropped (l : List Nat) : (l.foldl (fun t r => t.dropRoute r .aborted) s).engine = s.engine := foldl_keeps (·.engine) l s
    have cut := (dropRoutes_work s (f.plan.links.map (·.route)) .aborted).flight
      (g := { f with phase := .cut, holdLimit := none, moves := if f.phase = .move then f.moves else [] })
      ((congrArg Engine.flight (dropped _)).trans flying) rfl
    exact ite_work (cut.trans (foldl_work withdrawMove_work _ _)) cut

theorem endMember_work (b : Fin 8) (m : Move) : Work s (endMember b s m) := by
  unfold endMember
  split
  · refine ite_work ?_ .refl
    have rests := driveElem_work s m.elem (fun t => restDrive t m.target)
    dsimp only
    split
    · exact ite_work (rests.trans (modElem_resolve_work _ _ fun _ => ⟨withdrawPulsed_d _ _, withdrawPulsed_losses _ _⟩))
        (rests.trans (modFlight_work _))
    · exact rests
  · exact .refl

theorem endWave_work (b : Fin 8) : Work s (s.endWave b) := by
  unfold State.endWave
  split
  · exact .refl
  · exact ((foldl_work (fun t m => endMember_work t b m) _ s).trans (modFlight_work _)).trans (verifyReadyNow_work _ _)

theorem clearMarks_work (rs : List (Nat × MarkKind)) :
    Work s (rs.foldl (fun t rk => t.modRoute rk.1 (fun x => { x with mark := none })) s) :=
  foldl_work (fun t rk => Work.refl.route) rs s

theorem withdrawAll_work (p : Plan) : Work s (withdrawAll s p) := (dropRoutes_work s _ _).trans (clearMarks_work _ _)


end

end Sys2Proof.Machine
end
-- ==== Sys2Proof/Proofs/Acts.lean ====
section
/-! PROOFS. What the engine, the sequencer and the chain of instants do, as chains of single acts. Each act changes one part of the
state, under the one condition the invariants rest on, if any; every operation of chapters 1 to 8 is such a chain. -/

namespace Sys2Proof.Machine

/-- What the machine reaches by acts on its own work: a notice, a wear mark, a record of an element or a route with its definition
kept, a part of the engine or the guard, a plan placed where there is room, and the timers while a list is armed. -/
inductive Acts (s : State) : State → Prop
  | refl : Acts s s
  | notify {t : State} {k : NoticeKind} {a b : Val} (h : Acts s t) : Acts s (t.notify k a b)
  | wear {t : State} {m : Bool} {c : FlushClock} (h : Acts s t) : Acts s { t with store := { t.store with mark := m, clock := c } }
  | elem {t : State} {e : Nat} {f : Element → Element} (h : Acts s t)
      (keeps : ∀ x, (f x).d = x.d ∧ (f x).losses = x.losses := by intro x; simp) : Acts s (t.modElem e f)
  | route {t : State} {r : Nat} {f : Route → Route} (h : Acts s t)
      (keeps : ∀ x, (f x).d = x.d ∧ (f x).nodes = x.nodes ∧ (f x).conns = x.conns := by intro x; simp) : Acts s (t.modRoute r f)
  | held {t : State} {l : List Nat} (h : Acts s t) : Acts s { t with held := l }
  | drive {t : State} {d : Vector SlotDrive 64} (h : Acts s t) : Acts s { t with engine := { t.engine with drive := d } }
  | flight {t : State} {f : Option Flight} (h : Acts s t) : Acts s { t with engine := { t.engine with flight := f } }
  | guard {t : State} {g : GuardUnit} (h : Acts s t) : Acts s { t with guard := g }
  | waiting {t : State} {ws : List Plan} (h : Acts s t) (fewer : ws.length ≤ t.engine.waiting.length) :
      Acts s { t with engine := { t.engine with waiting := ws } }
  | place {t : State} {p : Plan} (h : Acts s t) (room : t.engine.waiting.length < 4) : Acts s (t.placePlan p)
  | run {t : State} {r : Run} {u : Timers} (h : Acts s t) : Acts s { t with seq := some r, timers := u }
  | timers {t : State} {u : Timers} (h : Acts s t) (armed : t.seq ≠ none) : Acts s { t with timers := u }
  | lines {t : State} {ins : Vector TrigIn 4} {l : Latches} (h : Acts s t) :
      Acts s { t with timers := { t.timers with ins := ins, latch := l } }
  | pace {t : State} {p : PaceRec} (h : Acts s t) (started : t.timers.pace.phase = .stopped → p = t.timers.pace) :
      Acts s { t with timers := { t.timers with pace := p } }
  | low {t : State} {o : Fin 4} (h : Acts s t) : Acts s (t.setOut o .off)
  | idle {t : State} (h : Acts s t) : Acts s t.returnIdle

/-- Acts follow one another. -/
theorem Acts.trans {s t u : State} (h : Acts s t) (g : Acts t u) : Acts s u := by
  induction g with
  | refl => exact h
  | notify _ ih => exact ih.notify
  | wear _ ih => exact ih.wear
  | elem _ keeps ih => exact ih.elem keeps
  | route _ keeps ih => exact ih.route keeps
  | held _ ih => exact ih.held
  | drive _ ih => exact ih.drive
  | flight _ ih => exact ih.flight
  | guard _ ih => exact ih.guard
  | waiting _ fewer ih => exact ih.waiting fewer
  | place _ room ih => exact ih.place room
  | run _ ih => exact ih.run
  | timers _ armed ih => exact ih.timers armed
  | lines _ ih => exact ih.lines
  | pace _ started ih => exact ih.pace started
  | low _ ih => exact ih.low
  | idle _ ih => exact ih.idle

/-- A fold of steps that are each a chain of acts. -/
theorem foldl_acts {α : Type} {f : State → α → State} (h : ∀ s a, Acts s (f s a)) (l : List α) (s : State) :
    Acts s (l.foldl f s) := by
  induction l generalizing s with
  | nil => exact .refl
  | cons a l ih => exact (h s a).trans (ih _)

/-- Either branch of a test is a chain of acts. -/
theorem ite_acts {s t u : State} {c : Prop} [Decidable c] (ht : Acts s t) (hu : Acts s u) : Acts s (if c then t else u) := by
  split <;> assumption

/-- The engine's own work is a chain of acts. -/
theorem Work.acts {s t : State} (h : Work s t) : Acts s t := by
  induction h with
  | refl => exact .refl
  | notify _ ih => exact ih.notify
  | wear _ ih => exact ih.wear
  | elem _ keeps ih => exact ih.elem keeps
  | route _ keeps ih => exact ih.route keeps
  | unheld _ _ ih => exact ih.held
  | drive _ ih => exact ih.drive
  | flight _ _ _ ih => exact ih.flight

/-- Acts follow, that are the engine's own work. -/
theorem Acts.work {s t u : State} (h : Acts s t) (g : Work t u) : Acts s u := h.trans g.acts

section
variable (s : State)

theorem setFlight_acts (f : Flight) : Acts s (s.setFlight f) := Acts.refl.flight

/-! ### The sequencer -/

theorem outReady_acts (n : Nat) (st : StepRec) (armed : s.seq ≠ none) : Acts s (s.outReady n st) := by
  unfold State.outReady
  split
  · exact .refl
  · exact ite_acts (Acts.refl.timers armed) (ite_acts (Acts.refl.timers armed) .refl)

@[simp] theorem outReady_seq (n : Nat) (st : StepRec) : (s.outReady n st).seq = s.seq := by
  unfold State.outReady
  split
  · rfl
  · split
    · rfl
    · split <;> rfl

@[simp] theorem outEnd_seq (n : Nat) (st : StepRec) : (s.outEnd n st).seq = s.seq := by
  unfold State.outEnd
  dsimp only
  split
  · split <;> rfl
  · rfl

theorem outEnd_acts (n : Nat) (st : StepRec) (armed : s.seq ≠ none) : Acts s (s.outEnd n st) := by
  unfold State.outEnd
  dsimp only
  split
  · split
    · exact (Acts.refl.timers armed).timers armed
    · exact (Acts.refl.timers armed)
  · exact (Acts.refl.timers armed)

theorem enterSwitching_acts (r : Run) : Acts s (s.enterSwitching r) := Acts.refl.run

theorem testEvent_acts (r : Run) : Acts s (s.testEvent r) :=
  ite_acts Acts.refl.run Acts.refl.notify

theorem enterWaiting_acts (r : Run) : Acts s (s.enterWaiting r) := by
  have waits : Acts s { s with
      seq := some { r with mode := .waiting, trigger := none }
      timers := { s.timers with window := .running s.now } } := Acts.refl.run
  unfold State.enterWaiting
  dsimp only
  split
  · exact ite_acts (waits.trans (testEvent_acts _ _)) waits
  · exact waits

theorem makeCurrent_acts (r : Run) : Acts s (s.makeCurrent r) := ite_acts (enterSwitching_acts s r) (enterWaiting_acts s r)

theorem enterHalted_acts (r : Run) (p : ResumePoint) (c : String) : Acts s (s.enterHalted r p c) :=
  Acts.refl.run.notify

theorem advanceEvent_acts (src : Source) : Acts s (s.advanceEvent src) := by
  unfold State.advanceEvent
  split
  · exact .refl
  · split
    · split
      · exact ite_acts (testEvent_acts s _) .refl
      · exact .refl
      · split
        · split
          · exact Acts.refl.run
          · exact Acts.refl.notify
        · exact .refl
    · exact .refl

theorem stepEnd_acts (r : Run) (armed : s.seq ≠ none) : Acts s (s.stepEnd r) := by
  have ended : Acts s { s.outEnd r.step (s.runStep r) with
      timers := { (s.outEnd r.step (s.runStep r)).timers with dwell := .stopped } } :=
    (outEnd_acts s _ _ armed).timers ((by simpa using armed))
  unfold State.stepEnd
  exact ite_acts (ended.trans (makeCurrent_acts _ _)) (ite_acts (ended.trans (makeCurrent_acts _ _))
    (ite_acts (ended.trans (makeCurrent_acts _ _)) ((ended.notify).idle)))

theorem beginDwell_acts (r : Run) (armed : s.seq ≠ none) : Acts s (s.beginDwell r) :=
  ite_acts (stepEnd_acts s _ armed) Acts.refl.run

theorem endRun_acts (c : String) : Acts s (s.endRun c) := by
  unfold State.endRun
  split
  · exact Acts.refl.notify.idle
  · exact .refl

/-- The plan ready of a step's plan. -/
theorem stepPlanReady_acts (fail : Option Cause) : Acts s (s.stepPlanReady fail) := by
  unfold State.stepPlanReady
  split
  next r armed =>
    split
    next due _ =>
      have reported : ∀ st : StepRec, Acts s (if st.rep then (s.outReady r.step st).notify .step (vStep r.step)
          ((s.outReady r.step st).stepDetail r st) else s.outReady r.step st) := fun st =>
        have ready := outReady_acts s r.step st (by simp [armed])
        ite_acts (ready.notify) ready
      refine ite_acts (Acts.refl.notify.idle) (ite_acts (enterHalted_acts s _ _ _) ?_)
      refine ite_acts ((reported _).trans (enterHalted_acts _ _ _ _)) ((reported _).trans (beginDwell_acts _ _ ?_))
      split <;> simp [armed]
    · exact .refl
  · exact .refl

/-! ### The engine -/

theorem enterGuard_acts (f : Flight) : Acts s (s.enterGuard f) := (setFlight_acts s _).guard

theorem startPlan_acts : Acts s s.startPlan := by
  unfold State.startPlan
  split
  · exact .refl
  next p ps queued =>
    have begun : Acts s ({ s with engine := { s.engine with waiting := ps } }.releasePhase p) :=
      (Acts.refl.waiting (by simp [queued])).work (releasePhase_work _ p)
    refine ite_acts (begun.trans (setFlight_acts _ _)) (ite_acts ?_ (begun.trans (enterGuard_acts _ _)))
    exact ((begun.trans (setFlight_acts _ _)).guard).work (enterMove_work _)

theorem applyOutcome_acts (o : PlanOp) (c : Option Cause) : Acts s (s.applyOutcome o c) := by
  have outcome {f : Route → Route} (keeps : ∀ x, (f x).d = x.d ∧ (f x).nodes = x.nodes ∧ (f x).conns = x.conns) :
      Acts s (s.modRoute o.route f) := Acts.refl.route keeps
  unfold State.applyOutcome
  split
  · exact .refl
  · refine ite_acts .refl (ite_acts (ite_acts (outcome fun _ => ⟨rfl, rfl, rfl⟩) .refl) (ite_acts ?_ .refl))
    split
    · exact Acts.refl.route.held
    · exact outcome fun _ => ⟨rfl, rfl, rfl⟩

theorem reportOps_acts (f : Flight) : Acts s (s.reportOps f) :=
  foldl_acts (fun t o => (applyOutcome_acts t o _).work (opNotice_work _ f o _)) _ s

theorem planReady_acts (f : Flight) : Acts s (s.planReady f) := by
  have left : Acts s { (s.reportOps f).reportPlan f with
      engine := { ((s.reportOps f).reportPlan f).engine with flight := none }
      guard := ((s.reportOps f).reportPlan f).guard.atReady (f.plan.kind = .safe) } :=
    (((reportOps_acts s f).work (reportPlan_work _ f)).flight (f := none)).guard
      (g := ((s.reportOps f).reportPlan f).guard.atReady (f.plan.kind = .safe))
  unfold State.planReady
  exact ite_acts (left.trans (stepPlanReady_acts _ _)) left

theorem endCut_acts : Acts s s.endCut :=
  ((Acts.refl (s := s)).flight (f := none)).guard (g := { s.guard with planHold := false })

theorem makeSafe_acts : Acts s s.makeSafe := by
  have ended := ((Acts.refl (s := s)).guard (g := { s.guard with safeHold := true, releaseEnd := none })).trans
    (endRun_acts _ "SAFE")
  have emptied (u : State) : Acts u { u.engine.waiting.foldl withdrawAll u with
      engine := { (u.engine.waiting.foldl withdrawAll u).engine with waiting := [] } } :=
    (foldl_work withdrawAll_work _ u).acts.waiting (Nat.zero_le _)
  have broken (u : State) : Work u (u.cutFlight.held.foldl (State.breakRoute .safe) u.cutFlight) :=
    (cutFlight_work u).trans (foldl_work (fun t r => breakRoute_work t .safe r) _ _)
  refine ((ended.trans (emptied _)).work (broken _)).place ?_
  rw [(broken _).waiting]
  exact Nat.zero_lt_succ 3

/-! ### Submission of a step's plan, and the chain -/

theorem submissionFails_acts (r : Run) (p : Nat) (d : Val) : Acts s (s.submissionFails r p d) :=
  Acts.refl.notify.trans (enterHalted_acts _ _ _ _)

theorem submitPlan_acts (r : Run) (due : Option Due) (ms : List (Nat × MarkKind)) (st : StepRec)
    (room : s.engine.waiting.length < 4) : Acts s (s.submitPlan r due ms st) := by
  have pending (l : List StepOp) (t : State) :
      Acts t (l.foldl (fun t o => t.modRoute o.route (fun x => { x with st := .pending })) t) :=
    foldl_acts (fun t o => Acts.refl.route) l t
  have kept (l : List StepOp) (t : State) :
      (l.foldl (fun t o => t.modRoute o.route (fun x => { x with st := .pending })) t).engine = t.engine :=
    foldl_keeps (·.engine) l t
  refine (((markRoutes_work s _ ms).acts.trans (pending _ _)).place ?_).run
  rwa [kept, (markRoutes_work s _ ms).waiting]

theorem submitStep_acts (r : Run) (due : Option Due) (room : s.engine.waiting.length < 4) : Acts s (s.submitStep r due) := by
  unfold State.submitStep
  dsimp only
  split
  · exact submissionFails_acts s _ _ _
  · split
    · exact submissionFails_acts s _ _ _
    · exact submitPlan_acts s _ _ _ _ room

end

/-- Every instant is a chain of acts. -/
theorem instant_acts {s t : State} (h : s.instant = some t) : Acts s t := by
  unfold State.instant at h
  split at h
  · unfold State.flightInstant at h
    split at h
    · cases h; exact planReady_acts s _
    · split at h <;> cases h; exact planReady_acts s _
    · split at h <;> cases h; exact (enterMove_work s).acts
    · split at h <;> cases h; exact endCut_acts s
    · cases h
  · split at h
    · cases h; exact startPlan_acts s
    next empty =>
      split at h
      · cases h; exact submitStep_acts s _ _ (by simp [empty])
      · split at h <;> cases h; exact Acts.refl.guard

/-- What follows at one moment is a chain of acts (R51, R147). -/
theorem settled_acts (s : State) : Acts s s.settled :=
  settled_induct (fun t => Acts s t) (fun _ _ hp hi => hp.trans (instant_acts hi)) .refl

/-- Acts leave the frame of `State.kept`. -/
theorem Acts.kept {s t : State} (h : Acts s t) : t.kept = s.kept := by
  induction h with
  | elem _ keeps ih => exact (modElem_kept _ _ _ keeps).trans ih
  | route _ keeps ih => exact (modRoute_kept _ _ _ keeps).trans ih
  | refl => rfl
  | _ => assumption

end Sys2Proof.Machine
end
-- ==== Sys2Proof/Proofs/Effects.lean ====
section
/-! PROOFS. What each command does: refused or asked, it changes nothing; accepted, it changes its own table or setting, or acts on the
machine's work. -/

namespace Sys2Proof.Machine

/-! ### The loss lists a record must have -/

/-- A node has the losses of R112 under a grid. -/
def Node.fits (grid : List Nat) (x : Node) : Prop := if x.kind = .inner then lossListFits grid x.losses else x.losses = []

/-- The losses of an element of a kind fit a grid (R112). -/
def connsFit (grid : List Nat) (k : ElemKind) (ls : List (List Cdb)) : Prop :=
  ls.length = k.connections ∧ ∀ l ∈ ls, lossListFits grid l

/-- An element has the losses of R112 under a grid. -/
def Element.fits (grid : List Nat) (x : Element) : Prop := connsFit grid x.d.kind x.losses

theorem lossListFits_zeros (grid : List Nat) : lossListFits grid (List.replicate grid.length 0) :=
  ⟨by simp, fun v hv => by simp [List.eq_of_mem_replicate hv]⟩

theorem connsFit_zeros (grid : List Nat) (k : ElemKind) :
    connsFit grid k (List.replicate k.connections (List.replicate grid.length 0)) :=
  ⟨by simp, fun l hl => List.eq_of_mem_replicate hl ▸ lossListFits_zeros grid⟩

/-! ### Deeds -/

/-- What accepted commands do to the state: acts on the machine's work, and changes of the tables and settings that keep keys in
order and loss lists fitting. -/
inductive Deeds (s : State) : State → Prop
  | refl : Deeds s s
  | acts {t u : State} (h : Deeds s t) (g : Acts t u) : Deeds s u
  | node {t : State} {n : Nat} {x : Node} (h : Deeds s t)
      (fits : (∀ y, tget t.nodes n = some y → y.fits t.settings.grid) → x.fits t.settings.grid) :
      Deeds s { t with nodes := tset t.nodes n x }
  | elem {t : State} {e : Nat} {x : Element} (h : Deeds s t)
      (fits : (∀ y, tget t.elems e = some y → y.fits t.settings.grid) → x.fits t.settings.grid) :
      Deeds s { t with elems := tset t.elems e x }
  | conns {t : State} {e : Nat} {f : Element → Element} (h : Deeds s t)
      (fits : ∀ x, x.fits t.settings.grid → (f x).fits t.settings.grid) : Deeds s (t.modElem e f)
  | routes {t : State} {rs : Table Route} (h : Deeds s t) (sorted : tsorted t.routes → tsorted rs) :
      Deeds s { t with routes := rs }
  | settings {t : State} {c : Settings} (h : Deeds s t) (grid : c.grid = t.settings.grid := by rfl)
      (steps : tsorted t.settings.steps → tsorted c.steps := by exact id)
      (lists : tsorted t.settings.lists → tsorted c.lists := by exact id) : Deeds s { t with settings := c }
  | grid {t : State} {g : List Nat} (h : Deeds s t) : Deeds s (t.setGrid g)
  | load {t : State} {im : Tables} (h : Deeds s t) (image : t.store.image.read = some im) : Deeds s (t.loadTables im)
  | overruns {t : State} {b : Bool} {n : Nat} (h : Deeds s t) :
      Deeds s { t with link := { t.link with overrun := b, overruns := n } }

theorem Acts.deeds {s t : State} (h : Acts s t) : Deeds s t := Deeds.refl.acts h

/-- What a command answers and leaves: nothing changed, whatever the answer; deeds, when it is no query; the oldest notice taken
away; or a write of the store begun or asked for. -/
inductive Effect (c : Instr) (s : State) : Answer → Prop
  | unchanged (r : Reply) : Effect c s (r, s)
  | done {vals : List Val} {t : State} (acting : c.isPureQuery = false) (h : Deeds s t) : Effect c s (.ok vals, t)
  | note {n : Notice} {q : List Notice} (acting : c.isPureQuery = false) (h : s.notices = n :: q) :
      Effect c s (.note n, { s with notices := q })
  | save (writes : c.writesImage = true) : Effect c s (.ok [], s.startSave)
  | reset (writes : c.writesImage = true) :
      Effect c s (.ok [], { s with link := { s.link with stop := some .waiting } }.storeFree)

section
variable {c : Instr} {s : State}

/-! ### The common argument shapes -/

theorem ite_effect {p : Prop} [Decidable p] {a b : Answer} (ha : Effect c s a) (hb : Effect c s b) :
    Effect c s (if p then a else b) := by
  split <;> assumption

theorem noArgs_effect {args : List Arg} {go : Answer} (h : Effect c s go) : Effect c s (noArgs args s go) :=
  ite_effect h (.unchanged _)

theorem oneId_effect {k : IdKind} {inRange : Nat → Bool} {args : List Arg} {go : Nat → Answer} (h : ∀ n, Effect c s (go n)) :
    Effect c s (oneId k inRange args s go) := by
  unfold oneId
  split
  · split
    · exact ite_effect (h _) (.unchanged _)
    · exact .unchanged _
  · exact .unchanged _

theorem defined_effect {α : Type} {t : Table α} {n : Nat} {go : α → Answer} (h : ∀ x, tget t n = some x → Effect c s (go x)) :
    Effect c s (defined t n s go) := by
  unfold defined
  split
  next x hx => exact h x hx
  · exact .unchanged _

/-- A query of one record. -/
theorem readRecord_effect {α : Type} {k : IdKind} {inRange : Nat → Bool} {args : List Arg} {t : Table α} {vals : Nat → α → List Val} :
    Effect c s (oneId k inRange args s (fun n => defined t n s (fun x => okWith (vals n x) s))) :=
  oneId_effect fun _ => defined_effect fun _ _ => .unchanged _

end

/-! ### Chapter 1 -/

section
variable (s : State) (args : List Arg)

theorem nodeRecord_fits (n : Nat) (kind : NodeKind) (det : Option (Fin 8))
    (fits : ∀ y, tget s.nodes n = some y → y.fits s.settings.grid) : (s.nodeRecord n kind det).fits s.settings.grid := by
  have fresh : Node.fits s.settings.grid ⟨kind, det, if kind = .instr then some .open_ else none,
      if kind = .inner then s.zeroLosses else []⟩ := by
    by_cases inner : kind = .inner
    · have zeros : lossListFits s.settings.grid s.zeroLosses := lossListFits_zeros _
      simpa [Node.fits, inner] using zeros
    · simp [Node.fits, inner]
  unfold State.nodeRecord
  split
  next x hx =>
    split
    · exact fits x hx
    · exact fresh
  · exact fresh

theorem cmdNode_effect : Effect (.node args) s (cmdNode args s) := by
  have written (n : Nat) (kind : NodeKind) (det : Option (Fin 8)) :
      Effect (.node args) s (okay { s with nodes := tset s.nodes n (s.nodeRecord n kind det) }) :=
    .done rfl (Deeds.refl.node (nodeRecord_fits s n kind det))
  unfold cmdNode
  split
  · exact .unchanged _
  · split
    · split
      · exact .unchanged _
      · exact written _ _ _
    · split
      · exact .unchanged _
      · split
        · exact .unchanged _
        · exact written _ _ _
    · exact .unchanged _

theorem elemRecord_fits (e : Nat) (d : ElemDef) (fits : ∀ y, tget s.elems e = some y → y.fits s.settings.grid) :
    (s.elemRecord d (tget s.elems e)).fits s.settings.grid := by
  have zeros : connsFit s.settings.grid d.kind (s.zeroConns d.kind) := connsFit_zeros _ _
  unfold State.elemRecord Element.fits
  dsimp only
  split
  next x hx =>
    split
    next same => exact same ▸ fits x hx
    · exact zeros
  · exact zeros

theorem elemDrive_acts (d : ElemDef) (old : Option Element) : Acts s (s.elemDrive d old) := by
  unfold State.elemDrive
  split
  · exact ite_acts .refl ((setDrive_work s _ _).acts.work (setDrive_work _ _ _))
  · exact (setDrive_work s _ _).acts

@[simp] theorem elemDrive_elems (d : ElemDef) (old : Option Element) : (s.elemDrive d old).elems = s.elems := by
  unfold State.elemDrive
  split
  · split <;> rfl
  · rfl

@[simp] theorem elemDrive_settings (d : ElemDef) (old : Option Element) : (s.elemDrive d old).settings = s.settings := by
  unfold State.elemDrive
  split
  · split <;> rfl
  · rfl

theorem cmdElem_effect : Effect (.elem args) s (cmdElem args s) := by
  unfold cmdElem
  split
  · exact .unchanged _
  · split
    · exact .unchanged _
    · split
      · exact .unchanged _
      next e _ _ _ _ _ _ _ _ d _ _ _ =>
        have driven := (elemDrive_acts s d (tget s.elems e)).deeds
        refine .done rfl ((driven.elem fun fits => ?_).acts (markWear_work _).acts)
        simpa using elemRecord_fits s e d (by simpa using fits)

theorem placePosn_acts (e p : Nat) (force : Bool) (k : Profile) (room : s.queueFull = false) : Acts s (s.placePosn e p force k) := by
  refine (markRoutes_work s _ _).acts.place ?_
  have marked (id : Nat) (l : List (Nat × MarkKind)) : (s.markRoutes id l).engine = s.engine := foldl_keeps (·.engine) l s
  simpa [marked, State.queueFull] using room

theorem cmdPosn_effect : Effect (.posn args) s (cmdPosn args s) := by
  unfold cmdPosn
  split
  · exact .unchanged _
  · split
    · exact .unchanged _
    · refine ite_effect (.unchanged _) (defined_effect fun x _ => ite_effect (.unchanged _) (ite_effect (.unchanged _) ?_))
      split
      · exact .unchanged _
      · split
        · exact .unchanged _
        next room => exact .done rfl (placePosn_acts s _ _ _ _ (by simpa using room)).deeds

/-! ### Chapter 2 -/

theorem cmdPath_effect : Effect (.path args) s (cmdPath args s) := by
  unfold cmdPath
  split
  · exact .unchanged _
  · split
    · dsimp only
      split
      · exact .unchanged _
      · split
        · exact .unchanged _
        · split
          · exact .unchanged _
          · split
            · exact .unchanged _
            · exact .done rfl (Deeds.refl.routes fun h => tsorted_tset h _ _)
    · exact .unchanged _

theorem cmdPdel_effect : Effect (.pdel args) s (cmdPdel args s) := by
  refine oneId_effect fun p => defined_effect fun r _ => ite_effect (.unchanged _) ?_
  split
  · exact .unchanged _
  · exact .done rfl (Deeds.refl.routes fun h => tsorted_tdel h _)

@[simp] theorem markRoutes_engine (id : Nat) (l : List (Nat × MarkKind)) : (s.markRoutes id l).engine = s.engine :=
  foldl_keeps (·.engine) l s

theorem placeLink_acts (p : Nat) (ms : List (Nat × MarkKind)) (room : s.queueFull = false) : Acts s (s.placeLink p ms) :=
  (markRoutes_work s _ ms).acts.route.place (by simpa [State.queueFull] using room)

theorem cmdLink_effect : Effect (.link args) s (cmdLink args s) := by
  unfold cmdLink
  split
  · exact .unchanged _
  · refine ite_effect (.unchanged _) (defined_effect fun r _ => ite_effect (.unchanged _) (ite_effect (.unchanged _) ?_))
    split
    · exact .unchanged _
    · refine ite_effect (.unchanged _) ?_
      split
      · exact .unchanged _
      · split
        · exact .unchanged _
        next room => exact .done rfl (placeLink_acts s _ _ (by simpa using room)).deeds

theorem withdrawLink_acts (r : Nat) : Acts s (s.withdrawLink r) :=
  (dropRoute_work s r .aborted).acts.waiting (List.length_filterMap_le _ _)

theorem placeUnlink_acts (rs : List Nat) (room : s.queueFull = false) : Acts s (s.placeUnlink rs) :=
  (markRoutes_work s _ _).acts.place (by simpa [State.queueFull] using room)

theorem cmdUnlink_effect : Effect (.unlink args) s (cmdUnlink args s) := by
  refine oneId_effect fun p => defined_effect fun r _ => ite_effect (.unchanged _) (ite_effect (.unchanged _)
    (ite_effect (.done rfl (withdrawLink_acts s p).deeds) ?_))
  split
  · exact .unchanged _
  next room => exact .done rfl (placeUnlink_acts s _ (by simpa using room)).deeds

theorem cmdUnlinkAll_effect : Effect .unlinkAll s (cmdUnlinkAll s) := by
  have withdrawn : Acts s (s.unlinkWithdraws.foldl State.withdrawLink s) := foldl_acts withdrawLink_acts _ s
  refine ite_effect (.unchanged _) (ite_effect (.done rfl withdrawn.deeds) ?_)
  split
  · exact .unchanged _
  next room => exact .done rfl (withdrawn.trans (placeUnlink_acts _ _ (by simpa using room))).deeds

/-! ### Chapters 3 to 6 -/

theorem cmdSafe_effect (v : Via) : Effect (.safe v) s (cmdSafe s) := .done rfl (makeSafe_acts s).deeds

theorem cmdPulse_effect : Effect (.pulse args) s (cmdPulse args s) := by
  unfold cmdPulse
  split
  · split
    · exact .done rfl Deeds.refl.settings
    · exact .done rfl Deeds.refl.settings
    · exact .unchanged _
    · exact .unchanged _
  · exact .unchanged _

theorem cmdSetl_effect : Effect (.setl args) s (cmdSetl args s) := by
  unfold cmdSetl
  split
  · split
    · split
      · exact .done rfl Deeds.refl.settings
      · exact .unchanged _
    · exact .unchanged _
  · exact .unchanged _

theorem cmdBank_effect : Effect (.bank args) s (cmdBank args s) := by
  unfold cmdBank
  split
  · split
    · split
      · exact ite_effect (.done rfl Deeds.refl.settings) (.unchanged _)
      · exact .unchanged _
    · exact .unchanged _
  · exact .unchanged _

theorem cmdBankQuery_effect : Effect (.bankQuery args) s (cmdBankQuery args s) := by
  unfold cmdBankQuery
  split
  · split
    · split <;> exact .unchanged _
    · exact .unchanged _
  · exact .unchanged _

theorem answerPlan_effect {c : Instr} (ovr : Option Profile) (ps : List Nat) : Effect c s (s.answerPlan ovr ps) := by
  unfold State.answerPlan
  split <;> exact .unchanged _

theorem cmdPlanQuery_effect (kw : Kw) : Effect (.planQuery kw args) s (cmdPlanQuery kw args s) := by
  unfold cmdPlanQuery
  split
  · exact oneId_effect fun _ => defined_effect fun _ _ => answerPlan_effect s _ _
  · exact oneId_effect fun _ => defined_effect fun _ _ => answerPlan_effect s _ _
  · exact .unchanged _

theorem cmdGuard_effect : Effect (.guard args) s (cmdGuard args s) := by
  unfold cmdGuard
  split
  · split
    · split
      · exact defined_effect fun x hx => ite_effect (.unchanged _) (ite_effect (.unchanged _)
          (.done rfl (Deeds.refl.node fun fits => fits x hx)))
      · exact .unchanged _
    · exact .unchanged _
  · exact .unchanged _

theorem judgeDetector_acts (d : Fin 8) : Acts s (s.judgeDetector d) :=
  ite_acts (Acts.refl.guard.work (rfAppeared_work _ d)) Acts.refl.guard

theorem cmdRfth_effect : Effect (.rfth args) s (cmdRfth args s) := by
  unfold cmdRfth
  split
  · split
    · split
      · exact .done rfl (Deeds.refl.settings.acts (judgeDetector_acts _ _))
      · exact .unchanged _
    · exact .unchanged _
  · exact .unchanged _

theorem cmdMute_effect : Effect (.mute args) s (cmdMute args s) := by
  unfold cmdMute
  split
  · split
    · exact .done rfl Deeds.refl.settings
    · exact .unchanged _
  · exact .unchanged _

theorem cmdSenseQuery_effect : Effect (.senseQuery args) s (cmdSenseQuery args s) := by
  unfold cmdSenseQuery
  split
  · split
    · split <;> exact .unchanged _
    · exact .unchanged _
  · exact .unchanged _

theorem cmdWearLim_effect : Effect (.wearLim args) s (cmdWearLim args s) := by
  unfold cmdWearLim
  split
  · split
    · exact ite_effect (defined_effect fun _ _ =>
        .done rfl (Acts.refl.elem.wear.work (lifeTest_work _ _)).deeds) (.unchanged _)
    · exact .unchanged _
  · exact .unchanged _

theorem cmdWearClr_effect : Effect (.wearClr args) s (cmdWearClr args s) :=
  oneId_effect fun _ => defined_effect fun _ _ => .done rfl (Acts.refl.elem.work (markWear_work _)).deeds

theorem cmdFreq_effect : Effect (.freq args) s (cmdFreq args s) := by
  unfold cmdFreq
  split
  · exact .unchanged _
  · exact ite_effect (.done rfl Deeds.refl.grid) (.unchanged _)

/-- Values that R116 does not refuse fit the grid. -/
theorem lossListFits_of_accepted {vs : List Nat} (h : s.valuesRefusal vs = none) : lossListFits s.settings.grid vs := by
  unfold State.valuesRefusal at h
  split at h
  · cases h
  next length =>
    refine ⟨by simpa using length, fun v hv => ?_⟩
    have := List.findIdx?_eq_none_iff.1 (Option.map_eq_none_iff.1 h) v hv
    simpa using this

theorem putConn_fits {g : List Nat} {i : Nat} {vs : List Nat} (values : lossListFits g vs) (x : Element) (fits : x.fits g) :
    (putConn i vs x).fits g := by
  refine ⟨by simpa [putConn] using fits.1, fun l hl => ?_⟩
  rcases List.mem_or_eq_of_mem_set hl with old | new
  · exact fits.2 l old
  · exact new ▸ values

theorem cmdLossE_effect : Effect (.lossE args) s (cmdLossE args s) := by
  unfold cmdLossE
  split
  · split
    · refine ite_effect (defined_effect fun x _ => ite_effect (.unchanged _) ?_) (.unchanged _)
      split
      · exact .unchanged _
      next accepted => exact .done rfl (Deeds.refl.conns (putConn_fits (lossListFits_of_accepted s accepted)))
    · exact .unchanged _
  · exact .unchanged _

theorem cmdLossN_effect : Effect (.lossN args) s (cmdLossN args s) := by
  unfold cmdLossN
  split
  · split
    · refine ite_effect (defined_effect fun x _ => ?_) (.unchanged _)
      split
      · exact .unchanged _
      next inner =>
        split
        · exact .unchanged _
        next accepted =>
          refine .done rfl (Deeds.refl.node fun _ => ?_)
          have inner : x.kind = .inner := by simpa using inner
          simpa [Node.fits, inner] using lossListFits_of_accepted s accepted
    · exact .unchanged _
  · exact .unchanged _

theorem cmdLossQuery_effect (kw : Option Kw) : Effect (.lossQuery kw args) s (cmdLossQuery kw args s) := by
  unfold cmdLossQuery
  split
  · unfold cmdLossRoute
    split
    · split
      · exact ite_effect (defined_effect fun _ _ => .unchanged _) (.unchanged _)
      · exact .unchanged _
    · exact .unchanged _
  · unfold cmdLossElem
    split
    · split
      · exact ite_effect (defined_effect fun _ _ => ite_effect (.unchanged _) (.unchanged _)) (.unchanged _)
      · exact .unchanged _
    · exact .unchanged _
  · exact oneId_effect fun _ => defined_effect fun _ _ => ite_effect (.unchanged _) (.unchanged _)
  · exact .unchanged _

/-! ### Chapters 7 and 8 -/

theorem cmdStep_effect : Effect (.step args) s (cmdStep args s) := by
  unfold cmdStep
  split
  · exact .unchanged _
  · split
    · split
      · exact .unchanged _
      · exact .done rfl (Deeds.refl.settings (steps := fun h => tsorted_tset h _ _))
    · exact .unchanged _

theorem cmdSdel_effect : Effect (.sdel args) s (cmdSdel args s) :=
  oneId_effect fun _ => defined_effect fun _ _ =>
    ite_effect (.unchanged _) (.done rfl (Deeds.refl.settings (steps := fun h => tsorted_tdel h _)))

theorem cmdList_effect : Effect (.list args) s (cmdList args s) := by
  unfold cmdList
  split
  · exact .unchanged _
  · split
    · exact ite_effect (.unchanged _) (ite_effect (.unchanged _)
        (.done rfl (Deeds.refl.settings (lists := fun h => tsorted_tset h _ _))))
    · exact .unchanged _

theorem cmdLdel_effect : Effect (.ldel args) s (cmdLdel args s) :=
  oneId_effect fun _ => defined_effect fun _ _ =>
    ite_effect (.unchanged _) (.done rfl (Deeds.refl.settings (lists := fun h => tsorted_tdel h _)))

/-- Arming makes a run stand before it touches the pace timer's record; the order of the two does not matter. -/
theorem armList_acts (l : Nat) (r : ListRec) : Acts s (s.armList l r) := by
  unfold State.armList State.makeCurrent
  refine ite_acts Acts.refl.run ?_
  exact Acts.refl.run

theorem cmdArm_effect : Effect (.arm args) s (cmdArm args s) := by
  refine oneId_effect fun l => defined_effect fun r _ => ite_effect (.unchanged _) (ite_effect (.unchanged _) ?_)
  split
  · exact .unchanged _
  · exact ite_effect (.unchanged _) (.done rfl (armList_acts s l r).deeds)

theorem cmdGo_effect (v : Via) : Effect (.go v) s (cmdGo s) :=
  ite_effect (.unchanged _) (.done rfl (advanceEvent_acts s _).deeds)

theorem haltRun_acts {t : State} (h : s.haltRun = some t) : Acts s t := by
  unfold State.haltRun at h
  split at h
  · cases h
  next r armed =>
    have armed : s.seq ≠ none := by simp [armed]
    split at h <;> cases h
    · exact (Acts.refl.timers armed).trans (enterHalted_acts _ _ _ _)
    · exact Acts.refl.run (u := s.timers)
    · exact (Acts.refl.timers armed).trans (enterHalted_acts _ _ _ _)

theorem cmdHalt_effect (v : Via) : Effect (.halt v args) s (cmdHalt v args s) := by
  refine ite_effect (.unchanged _) ?_
  split
  next t halted => exact .done rfl (haltRun_acts s halted).deeds
  · exact .unchanged _

theorem resumeRun_acts (r : Run) (p : ResumePoint) (armed : s.seq ≠ none) : Acts s (s.resumeRun r p) := by
  have thawed : Acts s s.thawOuts := Acts.refl.timers armed
  unfold State.resumeRun
  dsimp only
  split
  · exact thawed.trans (enterWaiting_acts _ _)
  · exact thawed.trans (beginDwell_acts _ _ armed)
  · exact ite_acts (thawed.trans (stepEnd_acts _ _ armed)) Acts.refl.run
  · exact thawed.trans (enterSwitching_acts _ _)

theorem cmdResume_effect : Effect (.resume args) s (cmdResume args s) := by
  refine noArgs_effect ?_
  split
  next r armed =>
    split
    · exact .done rfl (resumeRun_acts s r _ (by simp [armed])).deeds
    · exact .unchanged _
  · exact .unchanged _

theorem cmdAbort_effect : Effect (.abort args) s (cmdAbort args s) := by
  refine noArgs_effect ?_
  split
  · exact .unchanged _
  · split
    · exact .unchanged _
    · exact .done rfl (Acts.refl.run (u := s.timers)).deeds
    · exact .done rfl (endRun_acts s _).deeds

theorem cmdSeqQuery_effect : Effect (.seqQuery args) s (cmdSeqQuery args s) := by
  refine noArgs_effect ?_
  split <;> exact .unchanged _

theorem cmdTrin_effect : Effect (.trin args) s (cmdTrin args s) := by
  unfold cmdTrin
  split
  · split
    · split
      next i rise filter _ _ _ =>
        have stored : Deeds s { s with settings := { s.settings with inputs := s.settings.inputs.set i ⟨rise, filter⟩ } } :=
          Deeds.refl.settings
        exact ite_effect (.unchanged _) (.done rfl (stored.acts
          (Acts.refl.lines (ins := s.timers.ins.set i s.timers.ins[i].relevel) (l := s.timers.latch))))
      · exact .unchanged _
    · exact .unchanged _
  · exact .unchanged _

theorem cmdTrinQuery_effect : Effect (.trinQuery args) s (cmdTrinQuery args s) := by
  unfold cmdTrinQuery
  split
  · split
    · split <;> exact .unchanged _
    · exact .unchanged _
  · exact .unchanged _

theorem cmdTrout_effect : Effect (.trout args) s (cmdTrout args s) := by
  unfold cmdTrout
  split
  · split
    · split
      · exact .done rfl Deeds.refl.settings
      · exact .unchanged _
    · exact .unchanged _
  · exact .unchanged _

theorem cmdTroutQuery_effect : Effect (.troutQuery args) s (cmdTroutQuery args s) := by
  unfold cmdTroutQuery
  split
  · split
    · split <;> exact .unchanged _
    · exact .unchanged _
  · exact .unchanged _

theorem setPace_deeds (p : PaceSetting) : Deeds s (s.setPace p) := by
  have stored : Deeds s { s with settings := { s.settings with pace := p } } := Deeds.refl.settings
  unfold State.setPace
  dsimp only
  split
  · exact stored
  next idle =>
    have armed : s.seq ≠ none := fun none => idle (by simp [State.seqIdle, none])
    exact stored.acts (ite_acts (Acts.refl.timers armed) (Acts.refl.timers armed))

theorem cmdPace_effect : Effect (.pace args) s (cmdPace args s) := by
  unfold cmdPace
  split
  · exact .unchanged _
  · split
    · exact .done rfl (setPace_deeds s _)
    · exact .unchanged _

theorem cmdSnap_effect : Effect (.snap args) s (cmdSnap args s) := by
  unfold cmdSnap
  split
  · exact .unchanged _
  · exact .unchanged _
  · exact ite_effect (.done rfl (Acts.refl.lines (ins := s.timers.ins)).deeds) (.unchanged _)

theorem cmdSnapQuery_effect : Effect (.snapQuery args) s (cmdSnapQuery args s) :=
  noArgs_effect (.done rfl (Acts.refl.lines (ins := s.timers.ins)).deeds)

/-! ### Chapters 10 and 11 -/

theorem cmdNoteQuery_effect : Effect (.noteQuery args) s (cmdNoteQuery args s) := by
  refine noArgs_effect ?_
  split
  next queued => exact .note rfl queued
  · exact .unchanged _

theorem cmdAttn_effect : Effect (.attn args) s (cmdAttn args s) := by
  unfold cmdAttn
  split
  · split
    · exact .done rfl Deeds.refl.settings
    · exact .done rfl Deeds.refl.settings
    · exact .unchanged _
  · exact .unchanged _

theorem cmdStatQuery_effect : Effect (.statQuery args) s (cmdStatQuery args s) := noArgs_effect (.done rfl Deeds.refl.overruns)

theorem cmdSave_effect : Effect (.save args) s (cmdSave args s) := noArgs_effect (ite_effect (.unchanged _) (.save rfl))

theorem cmdLoad_effect : Effect (.load args) s (cmdLoad args s) := by
  refine noArgs_effect (ite_effect (.unchanged _) (ite_effect (.unchanged _) ?_))
  split
  next image => exact .done rfl (Deeds.refl.load image)
  · exact .unchanged _

theorem cmdReset_effect (v : Via) : Effect (.reset v) s (cmdReset s) := .reset rfl

end

/-- What each command does. -/
theorem answerOf_effect (c : Instr) (s : State) : Effect c s (answerOf c s) := by
  cases c with
  | node a => exact cmdNode_effect s a
  | elem a => exact cmdElem_effect s a
  | posn a => exact cmdPosn_effect s a
  | path a => exact cmdPath_effect s a
  | pdel a => exact cmdPdel_effect s a
  | link a => exact cmdLink_effect s a
  | unlink a => exact cmdUnlink_effect s a
  | unlinkAll => exact cmdUnlinkAll_effect s
  | safe v => exact cmdSafe_effect s v
  | pulse a => exact cmdPulse_effect s a
  | setl a => exact cmdSetl_effect s a
  | bank a => exact cmdBank_effect s a
  | bankQuery a => exact cmdBankQuery_effect s a
  | planQuery k a => exact cmdPlanQuery_effect s a k
  | guard a => exact cmdGuard_effect s a
  | rfth a => exact cmdRfth_effect s a
  | mute a => exact cmdMute_effect s a
  | senseQuery a => exact cmdSenseQuery_effect s a
  | wearLim a => exact cmdWearLim_effect s a
  | wearClr a => exact cmdWearClr_effect s a
  | freq a => exact cmdFreq_effect s a
  | lossE a => exact cmdLossE_effect s a
  | lossN a => exact cmdLossN_effect s a
  | lossQuery k a => exact cmdLossQuery_effect s a k
  | step a => exact cmdStep_effect s a
  | sdel a => exact cmdSdel_effect s a
  | list a => exact cmdList_effect s a
  | ldel a => exact cmdLdel_effect s a
  | arm a => exact cmdArm_effect s a
  | go v => exact cmdGo_effect s v
  | halt v a => exact cmdHalt_effect s a v
  | resume a => exact cmdResume_effect s a
  | abort a => exact cmdAbort_effect s a
  | seqQuery a => exact cmdSeqQuery_effect s a
  | trin a => exact cmdTrin_effect s a
  | trinQuery a => exact cmdTrinQuery_effect s a
  | trout a => exact cmdTrout_effect s a
  | troutQuery a => exact cmdTroutQuery_effect s a
  | pace a => exact cmdPace_effect s a
  | snap a => exact cmdSnap_effect s a
  | snapQuery a => exact cmdSnapQuery_effect s a
  | noteQuery a => exact cmdNoteQuery_effect s a
  | attn a => exact cmdAttn_effect s a
  | statQuery a => exact cmdStatQuery_effect s a
  | save a => exact cmdSave_effect s a
  | load a => exact cmdLoad_effect s a
  | reset v => exact cmdReset_effect s v
  | nodeQuery _ => exact readRecord_effect
  | elemQuery _ => exact readRecord_effect
  | pathQuery _ => exact readRecord_effect
  | wearQuery _ => exact readRecord_effect
  | stepQuery _ => exact readRecord_effect
  | listQuery _ => exact readRecord_effect
  | heldQuery _ => exact noArgs_effect (.unchanged _)
  | pulseQuery _ => exact noArgs_effect (.unchanged _)
  | setlQuery _ => exact noArgs_effect (.unchanged _)
  | muteQuery _ => exact noArgs_effect (.unchanged _)
  | supplyQuery _ => exact noArgs_effect (.unchanged _)
  | freqQuery _ => exact noArgs_effect (.unchanged _)
  | paceQuery _ => exact noArgs_effect (.unchanged _)
  | identQuery _ => exact noArgs_effect (.unchanged _)
  | storeQuery _ => exact noArgs_effect (.unchanged _)
  | _ => exact .unchanged _

end Sys2Proof.Machine
end
-- ==== Sys2Proof/Proofs/Goes.lean ====
section
/-! PROOFS. What one step of the machine does: deeds, commands answered while the interpreter is ready, the passing of time, levels of
inputs, the link, starts, and the writes of the store. -/

namespace Sys2Proof.Machine

/-- What the machine does in any number of steps. -/
inductive Goes (s : State) : State → Prop
  | refl : Goes s s
  | deeds {t u : State} (h : Goes s t) (g : Deeds t u) : Goes s u
  | answered {t : State} {c : Instr} {v : Via} {a : Answer} (h : Goes s t) (ready : t.ready v = true) (g : Effect c t a) :
      Goes s (a.2.reply v a.1)
  | moment {t : State} {p : List Instr} {n : Micros} (h : Goes s t) : Goes s { t with pending := p, now := n }
  | inputs {t : State} {ls : Vector (BitVec 8) 64} {p : Supply} (h : Goes s t) :
      Goes s { t with senseLines := ls, supply := p }
  | life {t : State} {l : Life} {b : Bool} (h : Goes s t) : Goes s { t with life := l, resetLine := b }
  | link {t : State} {l : Link} (h : Goes s t) (inbound : t.link.inbound.length ≤ 8 → l.inbound.length ≤ 8)
      (replies : t.link.replies.length ≤ 8 → l.replies.length ≤ 8) : Goes s { t with link := l }
  | start {t : State} {l : Life} (h : Goes s t) : Goes s (t.beginStart l)
  | complete {t : State} {k : StartKind} {straps : Straps} (h : Goes s t) : Goes s (t.completeStart k straps)
  | flush {t : State} (h : Goes s t) : Goes s t.startFlush
  | saved {t : State} {copy : Tables} {since : Micros} {good : Bool} {cond : ImageCond} (h : Goes s t)
      (saving : t.store.st = .saving copy since) :
      Goes s { t with store := { t.store with
        image := { t.store.image with table := if good then some ⟨copy, t.store.image.saveNo⟩ else none }
        st := .idle
        cond := cond } }
  | flushed {t : State} {toB : Bool} {copy : WearSlot} {since : Micros} {good : Bool} (h : Goes s t)
      (flushing : t.store.st = .flushing toB copy since) :
      Goes s { t with store := { t.store with
        image := t.store.image.setSlot toB (if good then some copy else none)
        st := .idle } }

section
variable {s t : State}

theorem Goes.acts {u : State} (h : Goes s t) (g : Acts t u) : Goes s u := h.deeds g.deeds

/-- A change of the link that leaves both queues. -/
theorem Goes.relink {l : Link} (h : Goes s t) (inbound : l.inbound = t.link.inbound) (replies : l.replies = t.link.replies) :
    Goes s { t with link := l } :=
  h.link (fun le => inbound ▸ le) (fun le => replies ▸ le)

theorem Goes.dueFlush (h : Goes s t) : Goes s t.dueFlush := by
  unfold State.dueFlush
  split
  · split
    · exact h.flush
    · exact h.acts (Acts.refl.wear (m := t.store.mark))
  · exact h

theorem Goes.finalFlush (h : Goes s t) : Goes s t.finalFlush := by
  unfold State.finalFlush
  split
  · split
    · exact h.relink rfl rfl
    · split
      · exact h.flush.relink rfl rfl
      · exact h.relink rfl rfl
  · exact h

theorem Goes.storeFree (h : Goes s t) : Goes s t.storeFree := by
  unfold State.storeFree
  split
  · exact h.dueFlush.finalFlush
  · exact h

/-! ### The interpreter -/

theorem Goes.take {c : Instr} {v : Via} {cmd : State → Answer} (h : Goes s t) (ready : t.ready v = true)
    (effect : Effect c t (cmd t)) : Goes s (t.take v cmd) := (h.answered ready effect).acts (settled_acts _)

theorem Goes.join {c : Instr} (h : Goes s t) : Goes s (t.join c) := by
  unfold State.join
  split
  next room => exact h.link (fun _ => by simpa using room) id
  · have counted : Goes s { t with link := { t.link with overrun := true, overruns := min 65535 (t.link.overruns + 1) } } :=
      h.relink rfl rfl
    exact counted.acts Acts.refl.notify

theorem Goes.drain (n : Nat) (h : Goes s t) : Goes s (t.drain n) := by
  induction n generalizing t with
  | zero => exact h
  | succ n ih =>
    unfold State.drain
    split
    · exact h
    next c rest queued =>
      split
      next ready =>
        refine ih (Goes.take (c := c) (h.link (fun le => ?_) id) ready (answerOf_effect c _))
        exact Nat.le_of_succ_le (by simpa [queued] using le)
      · exact h

theorem Goes.arrive {c : Instr} (h : Goes s t) : Goes s (t.arrive c) := h.join.drain 9

theorem Goes.receive {c : Instr} {cmd : State → Answer} (h : Goes s t) (effect : Effect c t (cmd t)) :
    Goes s (t.receive c cmd) := by
  unfold State.receive
  split
  · split
    next free => exact h.take free.2 effect
    · exact h.arrive
  · exact h

theorem Goes.endRecord (h : Goes s t) : Goes s t.endRecord := by
  unfold State.endRecord
  split
  · exact h
  · have outside : Goes s { t with link := { t.link with receive := .outside } } := h.relink rfl rfl
    dsimp only
    split
    · exact outside.arrive
    · exact outside

theorem Goes.character (code : Nat) (framing : Bool) (h : Goes s t) : Goes s (t.character code framing) := by
  unfold State.character
  split
  · exact h.endRecord
  · exact h.relink rfl rfl

/-- What the machine does follows on. -/
theorem Goes.trans {u : State} (h : Goes s t) (g : Goes t u) : Goes s u := by
  induction g with
  | refl => exact h
  | deeds _ g ih => exact ih.deeds g
  | answered _ ready g ih => exact ih.answered ready g
  | moment _ ih => exact ih.moment
  | inputs _ ih => exact ih.inputs
  | life _ ih => exact ih.life
  | link _ inbound replies ih => exact ih.link inbound replies
  | start _ ih => exact ih.start
  | complete _ ih => exact ih.complete
  | flush _ ih => exact ih.flush
  | saved _ saving ih => exact ih.saved saving
  | flushed _ flushing ih => exact ih.flushed flushing

theorem Acts.goes (h : Acts s t) : Goes s t := Goes.refl.acts h

theorem ite_goes {u : State} {p : Prop} [Decidable p] (ht : Goes s t) (hu : Goes s u) : Goes s (if p then t else u) := by
  split <;> assumption

end

/-! ### Events: what an event does to a controller that runs -/

section
variable (s : State)

theorem during_goes {go : State → State} (h : Goes s (go s)) : Goes s (s.during go) :=
  ite_goes (h.acts (settled_acts _)) .refl

/-- A timed event: what it does at its due moment. -/
theorem whenDue_goes {due : Option Micros} {go : State → State} (h : ∀ t, due = some t → Goes (s.at t) (go (s.at t))) :
    Goes s (s.whenDue due go) := by
  unfold State.whenDue
  split
  next t => exact during_goes s ((Goes.refl (s := s)).moment.trans (h t rfl))
  · exact .refl

theorem muteExpires_acts : Acts s s.muteExpires := by
  unfold State.muteExpires
  split
  · exact ((setFlight_acts s _).guard (g := { s.guard with planHold := false, releaseEnd := some _ })).trans (planReady_acts _ _)
  · exact .refl

theorem readyNow_work (e : Nat) : Work s (s.readyNow e) := by
  unfold State.readyNow
  split
  · split
    · exact verify_work s _ _ _
    · exact .refl
  · exact .refl

theorem holdExpires_work : Work s s.holdExpires := by
  unfold State.holdExpires
  split
  next f flying => exact (Work.refl.flight flying (by rfl)).trans (foldl_work withdrawMove_work _ _)
  · exact .refl

theorem countReading_work (e : Nat) : Work s (s.countReading e) := by
  unfold State.countReading
  split
  · split
    next r _ _ =>
      have taken : Work s (s.modElem e (takeReading r)) := Work.refl.elem fun _ => ⟨rfl, rfl⟩
      exact ite_work (taken.notify.trans (breakClaims_work _ _ _)) (ite_work taken taken.notify)
    · exact .refl
  · exact .refl

@[simp] theorem countReport_d (now : Micros) (r : Reading) (x : Element) : (countReport now r x).d = x.d := by
  unfold countReport
  split <;> rfl

@[simp] theorem countReport_losses (now : Micros) (r : Reading) (x : Element) : (countReport now r x).losses = x.losses := by
  unfold countReport
  split <;> rfl

theorem newReport_work (b slot : Fin 8) : Work s (s.newReport b slot) := by
  unfold State.newReport
  split
  · split
    · exact Work.refl.elem
    · exact .refl
  · exact .refl

theorem setIn_acts (i : Fin 4) (x : TrigIn) : Acts s (s.setIn i x) := Acts.refl.lines (l := s.timers.latch)

/-- A change of the gate does nothing to a pace timer that is stopped (R165, R167, R168). -/
theorem gateChange_stopped {now : Micros} {p : PaceSetting} {high : Bool} {r : PaceRec} (h : r.phase = .stopped) :
    gateChange now p high r = r := by
  unfold gateChange
  rw [h]
  cases p.mode <;> rfl

theorem filteredChange_acts (i : Fin 4) (high : Bool) : Acts s (s.filteredChange i high) := by
  have heard : Acts s (if s.settings.inputs[i].rise = high
      then (s.setIn i { s.timers.ins[i] with level := high, qual := none }).advanceEvent (.ti i)
      else s.setIn i { s.timers.ins[i] with level := high, qual := none }) :=
    ite_acts ((setIn_acts s i _).trans (advanceEvent_acts _ _)) (setIn_acts s i _)
  exact ite_acts (heard.pace gateChange_stopped) heard

theorem rawChange_acts (i : Fin 4) (high : Bool) : Acts s (s.rawChange i high) :=
  ite_acts (setIn_acts s i _) (ite_acts (filteredChange_acts s i high) (setIn_acts s i _))

theorem paceExpires_acts (t : Micros) (counting : s.timers.pace.phase ≠ .stopped) : Acts s (s.paceExpires t) :=
  (Acts.refl.pace fun stopped => absurd stopped counting).trans (advanceEvent_acts _ _)

theorem windowCloses_acts : Acts s s.windowCloses := by
  unfold State.windowCloses
  split
  next r armed =>
    have late : Acts s ((s.stopWindow (s.runList r).late).notify .late (vStep r.step) (vNum (s.runList r).late)) :=
      (Acts.refl.timers (by simp [armed])).notify
    exact ite_acts (late.trans (enterSwitching_acts _ _)) (late.trans (enterHalted_acts _ _ _ _))
  · exact .refl

theorem dwellExpires_acts : Acts s s.dwellExpires := by
  unfold State.dwellExpires
  split
  next r armed => exact stepEnd_acts s r (by simp [armed])
  · exact .refl

theorem holdClock_plan (now : Micros) (st : SupplyState) (f : Flight) : (holdClock now st f).plan = f.plan := by
  unfold holdClock
  split
  · split <;> rfl
  · rfl

theorem supplyChanged_goes (was st : SupplyState) : Goes s (s.supplyChanged was st) := by
  have changed : Goes s (({ s with supply := { s.supply with st := st } }.notify .supply (vWord (supplyText st))
      (vNum s.supply.reading)).modFlight (holdClock s.now st)) :=
    (Goes.acts (.inputs (ls := s.senseLines) .refl) Acts.refl.notify).acts
      (modFlight_work _ (holdClock_plan _ _)).acts
  exact ite_goes (changed.acts (startBanks_work _).acts) changed

/-! ### The store -/

theorem saveEnds_goes (good : Bool) : Goes s (s.saveEnds good) := by
  unfold State.saveEnds
  split
  next copy since saving =>
    have ended := (Goes.refl (s := s)).saved (good := good) (cond := if good then .good else .bad) saving
    refine Goes.storeFree (Goes.acts (ite_goes ?_ ?_) Acts.refl.notify)
    · exact ended
    · exact ended.acts (markWear_work _).acts
  · exact .refl

theorem flushEnds_goes (good : Bool) : Goes s (s.flushEnds good) := by
  unfold State.flushEnds
  split
  next toB copy since flushing =>
    have ended := ((Goes.refl (s := s)).flushed (good := good) flushing).relink
      (l := { s.link with stop := if s.link.stop = some FinalFlush.running then some .ended else s.link.stop }) rfl rfl
    refine Goes.storeFree (Goes.acts (ite_goes ?_ ?_) Acts.refl.notify)
    · exact ended
    · exact ended.acts (markWear_work _).acts
  · exact .refl

end

/-! ### Every command and every step -/

/-- A command that stands for a record reaches the station. -/
theorem exec_record {c : Instr} (record : c.isRecord = true) (s : State) : exec c s = .next (s.receive c (answerOf c)) := by
  cases c with
  | recordReceived | linkBreak | replyTransmitStart | replySent | quietChange _ | detectorReading _ _ | muteTimeout
  | releaseIntervalEnd | waveStart _ | waveEnd _ | retryStart _ | elementReady _ | supplyChange _ | holdLimitExpiry
  | senseReportChange _ _ _ | readingCounted _ | triggerInputChange _ _ | qualificationEnd _ | paceExpiry | windowClose
  | dwellExpiry | outputPulseEnd _ | flushClockExpiry | saveComplete _ | flushComplete _ | commandStart | powerStart
  | lineStart | resetRelease | startUpComplete _ | commandPairCharacter _ _ | replyPairCharacter | powerLoss => cases record
  | _ => rfl

/-- Every command answers a next state. -/
theorem exec_next (c : Instr) (s : State) : ∃ t, exec c s = .next t := by
  cases c <;> exact ⟨_, rfl⟩

theorem startAs_goes (s : State) (k : StartKind) : Goes s (s.startAs k) := Goes.refl.start

/-- What every command does. -/
theorem exec_goes {c : Instr} {s t : State} (h : exec c s = .next t) : Goes s t := by
  cases c with
  | recordReceived => cases h; exact ite_goes Goes.refl.endRecord .refl
  | linkBreak => cases h; exact ite_goes (Goes.refl.link (fun _ => Nat.zero_le _) (fun _ => Nat.zero_le _)) .refl
  | replyTransmitStart =>
    cases h
    refine ite_goes ?_ .refl
    split
    · exact Goes.relink (Goes.refl.moment (p := s.pending)) rfl rfl
    · exact .refl
  | replySent =>
    cases h
    refine ite_goes ?_ .refl
    split
    · refine Goes.drain 9 (Goes.link (Goes.refl.moment (p := s.pending)) id fun le => ?_)
      exact (List.length_drop (l := s.link.replies) ▸ Nat.sub_le _ 1).trans le
    · exact .refl
  | quietChange high =>
    cases h
    exact Goes.trans (Acts.refl.guard).goes (during_goes _ (ite_work (quietFell_work _) .refl).acts.goes)
  | detectorReading d x => cases h; exact Goes.trans (Acts.refl.guard).goes (during_goes _ (judgeDetector_acts _ d).goes)
  | muteTimeout => cases h; exact whenDue_goes s fun _ _ => (muteExpires_acts _).goes
  | releaseIntervalEnd => cases h; exact whenDue_goes s fun _ _ => (Acts.refl.guard).goes
  | waveStart b => cases h; exact whenDue_goes s fun _ _ => (startWave_work _ b).acts.goes
  | waveEnd b => cases h; exact whenDue_goes s fun _ _ => (endWave_work _ b).acts.goes
  | retryStart b => cases h; exact whenDue_goes s fun _ _ => (startRetry_work _ b).acts.goes
  | elementReady e => cases h; exact whenDue_goes s fun _ _ => (readyNow_work _ e).acts.goes
  | supplyChange v =>
    cases h
    exact Goes.trans (Goes.refl.inputs (ls := s.senseLines)) (during_goes _ (ite_goes .refl (supplyChanged_goes _ _ _)))
  | holdLimitExpiry => cases h; exact whenDue_goes s fun _ _ => (holdExpires_work _).acts.goes
  | senseReportChange b slot closed =>
    cases h
    exact ite_goes .refl (Goes.trans (Goes.refl.inputs (p := s.supply)) (during_goes _ (newReport_work _ b slot).acts.goes))
  | readingCounted e => cases h; exact whenDue_goes s fun _ _ => (countReading_work _ e).acts.goes
  | triggerInputChange i high =>
    cases h
    exact ite_goes .refl (Goes.trans (setIn_acts s i _).goes (during_goes _ (rawChange_acts _ i high).goes))
  | qualificationEnd i => cases h; exact whenDue_goes s fun _ _ => (filteredChange_acts _ i _).goes
  | paceExpiry =>
    cases h
    refine whenDue_goes s fun t due => (paceExpires_acts _ _ fun stopped => ?_).goes
    simp only [State.at_timers] at stopped
    simp [State.paceDue, stopped] at due
  | windowClose => cases h; exact whenDue_goes s fun _ _ => (windowCloses_acts _).goes
  | dwellExpiry => cases h; exact whenDue_goes s fun _ _ => (dwellExpires_acts _).goes
  | outputPulseEnd o => cases h; exact whenDue_goes s fun _ _ => (Acts.refl.low).goes
  | flushClockExpiry =>
    cases h
    exact whenDue_goes s fun t _ => Goes.storeFree (Acts.refl.wear (m := s.store.mark) (c := .due)).goes
  | saveComplete good => cases h; exact whenDue_goes s fun _ _ => saveEnds_goes _ good
  | flushComplete good => cases h; exact whenDue_goes s fun _ _ => flushEnds_goes _ good
  | commandStart => cases h; exact ite_goes (startAs_goes s _) .refl
  | powerStart => cases h; exact ite_goes (startAs_goes s _) .refl
  | lineStart =>
    cases h
    exact ite_goes .refl (ite_goes (Goes.refl.life (l := s.life))
      (Goes.trans (Goes.refl.life (l := s.life)) (startAs_goes _ _)))
  | resetRelease =>
    cases h
    refine ite_goes ?_ .refl
    split
    · exact Goes.refl.life
    · exact Goes.refl.life (l := s.life)
  | startUpComplete straps =>
    cases h
    split
    · exact Goes.refl.complete
    · exact .refl
  | commandPairCharacter code framing => cases h; exact ite_goes (Goes.refl.character _ _) .refl
  | replyPairCharacter => cases h; exact ite_goes (Goes.refl.relink rfl rfl) .refl
  | powerLoss => cases h; exact ite_goes .refl Goes.refl.start
  | _ =>
    cases (exec_record rfl s).symm.trans h
    exact Goes.refl.receive (answerOf_effect _ s)

/-- What every step does. -/
theorem step_goes {s t : State} (h : step s = .next t) : Goes s t := by
  unfold step at h
  split at h
  · exact Goes.trans (Goes.refl.moment (n := s.now)) (exec_goes h)
  · split at h
    · exact exec_goes h
    · cases h; exact Goes.refl.moment (p := s.pending)

/-- Settles O3: every arm of the dispatch gives a meaning, and a step runs one or lets time pass. -/
theorem nothingStops : Obligations.NothingStops := by
  refine ⟨exec_next, fun s => ?_⟩
  unfold step
  split
  · exact exec_next _ _
  · split
    · exact exec_next _ _
    · exact ⟨_, rfl⟩

end Sys2Proof.Machine
end
-- ==== Sys2Proof/Proofs/Invariants.lean ====
section
/-! PROOFS. Four of the invariants every step keeps: tables in canonical form, loss lists that fit the grid, queues within their bounds,
and a quiet machine while nothing is armed. -/

namespace Sys2Proof.Machine

/-! ### Tables -/

section
variable {α β : Type}

/-- What a table holds after a write: the record written, or a record it held. -/
theorem mem_tset {t : Table α} {j : Nat} {x : α} {kv : Nat × α} (h : kv ∈ tset t j x) : kv = (j, x) ∨ kv ∈ t := by
  induction t with
  | nil => exact .inl (by simpa [tset] using h)
  | cons hd t ih =>
    obtain ⟨k, v⟩ := hd
    unfold tset at h
    split at h
    · exact (List.mem_cons.1 h).imp_right id
    · split at h
      · exact (List.mem_cons.1 h).imp_right (List.mem_cons_of_mem _)
      · rcases List.mem_cons.1 h with rfl | h
        · exact .inr (List.mem_cons_self ..)
        · exact (ih h).imp_right (List.mem_cons_of_mem _)

/-- A property of all records survives a write of a record that has it. -/
theorem all_tset {t : Table α} {P : α → Prop} {j : Nat} {x : α} (h : ∀ kv ∈ t, P kv.2)
    (new : (∀ y, tget t j = some y → P y) → P x) : ∀ kv ∈ tset t j x, P kv.2 := by
  intro kv hkv
  rcases mem_tset hkv with rfl | old
  · exact new fun y hy => h _ (tget_mem hy)
  · exact h kv old

/-- A property of all records survives a change that keeps it. -/
theorem all_tmod {t : Table α} {P : α → Prop} {j : Nat} {f : α → α} (h : ∀ kv ∈ t, P kv.2) (keeps : ∀ x, P x → P (f x)) :
    ∀ kv ∈ tmod t j f, P kv.2 := by
  intro kv hkv
  obtain ⟨old, hold, rfl⟩ := List.mem_map.1 hkv
  split
  · exact keeps _ (h old hold)
  · exact h old hold

theorem all_map {t : Table α} {P : β → Prop} {f : Nat × α → Nat × β} (h : ∀ kv ∈ t, P (f kv).2) : ∀ kv ∈ t.map f, P kv.2 := by
  intro kv hkv
  obtain ⟨old, hold, rfl⟩ := List.mem_map.1 hkv
  exact h old hold

/-- Two tables that a map keeping keys cannot tell apart have the same keys. -/
theorem tsorted_congr {t : Table α} {u : Table β} (h : t.map (·.1) = u.map (·.1)) : tsorted t ↔ tsorted u := by
  rw [tsorted_iff_keys, tsorted_iff_keys, h]

end

/-! ### Invariants of the tables, live and stored -/

/-- What a property of tables needs so that every step keeps it, live and stored: it holds of the empty tables, does not look at wear
fields, and every change a command makes to the live tables keeps it. -/
structure TableRule (P : Tables → Prop) : Prop where
  empty : P .empty
  frame : ∀ s t : State, t.kept = s.kept → P s.tables → P t.tables
  worn : ∀ (t : Tables) (f : Nat × ElemImage → Wear), P t → P { t with elems := t.elems.map (fun kv => (kv.1, { kv.2 with wear := f kv })) }
  node : ∀ (s : State) n x, ((∀ y, tget s.nodes n = some y → y.fits s.settings.grid) → x.fits s.settings.grid) → P s.tables →
    P ({ s with nodes := tset s.nodes n x } : State).tables
  elem : ∀ (s : State) e x, ((∀ y, tget s.elems e = some y → y.fits s.settings.grid) → x.fits s.settings.grid) → P s.tables →
    P ({ s with elems := tset s.elems e x } : State).tables
  conns : ∀ (s : State) e f, (∀ x, x.fits s.settings.grid → (f x).fits s.settings.grid) → P s.tables → P (s.modElem e f).tables
  routes : ∀ (s : State) rs, (tsorted s.routes → tsorted rs) → P s.tables → P ({ s with routes := rs } : State).tables
  settings : ∀ (s : State) c, c.grid = s.settings.grid → (tsorted s.settings.steps → tsorted c.steps) →
    (tsorted s.settings.lists → tsorted c.lists) → P s.tables → P ({ s with settings := c } : State).tables
  grid : ∀ (s : State) g, P s.tables → P (s.setGrid g).tables

@[simp] theorem freshRoute_d (s : State) (d : RouteDef) : (s.freshRoute d).d = d := by
  unfold State.freshRoute
  split <;> rfl

/-- A start takes an element's definition, losses and wear from the image (R24). -/
theorem startElement_image (straps : Straps) (reading : ElemDef → Reading) (x : ElemImage) :
    (startElement straps reading x).d = x.d ∧ (startElement straps reading x).losses = x.losses ∧
      (startElement straps reading x).wear = x.wear := by
  unfold startElement
  dsimp only
  split
  · exact ⟨rfl, rfl, rfl⟩
  · split
    · split <;> exact ⟨rfl, rfl, rfl⟩
    · split <;> exact ⟨rfl, rfl, rfl⟩

/-- A start takes the tables it reads. -/
theorem completeStart_tables (s : State) (k : StartKind) (straps : Straps) :
    (s.completeStart k straps).tables = s.store.image.read.getD .empty := by
  simp [State.completeStart, State.tables, State.freshRoutes, Function.comp_def, startElement_image]

theorem loadElement_d (now : Micros) (straps : Straps) (reading : ElemDef → Reading) (old : Option Element) (x : ElemImage) :
    (loadElement now straps reading old x).d = x.d ∧ (loadElement now straps reading old x).losses = x.losses := by
  unfold loadElement
  split
  · exact ⟨rfl, rfl⟩
  · dsimp only
    split <;> exact ⟨rfl, rfl⟩

/-- The tables as a LOAD replaces them, before the thresholds it changes are tested (R111). -/
def State.replaced (s : State) (t : Tables) : State :=
  let drive := t.elems.foldl
    (fun v kv => v.set kv.2.d.slotIndex (loadDrive s.straps s.engine.drive (tget s.elems kv.1) kv.2))
    (Vector.replicate 64 SlotDrive.off)
  let s1 : State := { s with
    nodes := t.nodes
    elems := t.elems.map (fun kv => (kv.1, loadElement s.now s.straps s.reading (tget s.elems kv.1) kv.2))
    settings := t.settings
    engine := { s.engine with drive := drive }
    guard := { s.guard with dets := judgeAll s.guard.dets t.settings.threshold }
    timers := { s.timers with
      ins := s.timers.ins.map (fun x => ⟨x.raw, x.raw, none⟩)
      pace := { s.timers.pace with loaded := t.settings.pace.count } } }
  { s1 with routes := s1.freshRoutes t.routes }

theorem loadTables_eq (s : State) (t : Tables) : s.loadTables t = (s.limitChanged t.elems).foldl State.lifeTest (s.replaced t) := rfl

/-- After the tables are replaced, a LOAD only tests thresholds. -/
theorem loadTables_acts (s : State) (t : Tables) : Acts (s.replaced t) (s.loadTables t) := (foldl_work lifeTest_work _ _).acts

/-- The replaced tables are the ones read, but for wear fields. -/
theorem replaced_tables (s : State) (t : Tables) :
    (s.replaced t).tables = { t with elems := t.elems.map (fun kv => (kv.1, { kv.2 with
      wear := (loadElement s.now s.straps s.reading (tget s.elems kv.1) kv.2).wear })) } := by
  simp [State.replaced, State.tables, State.freshRoutes, Function.comp_def, loadElement_d]

/-- A store that begins or ends a flush leaves the table section. -/
@[simp] theorem setSlot_table (im : Image) (b : Bool) (w : Option WearSlot) : (im.setSlot b w).table = im.table := by
  unfold Image.setSlot
  split <;> rfl

section
variable {P : Tables → Prop}

theorem startFlush_everyTables {s : State} (hs : s.everyTables P) : s.startFlush.everyTables P := by
  obtain ⟨live, image, -⟩ := hs
  exact ⟨live, fun sec h => image sec (by simpa [State.startFlush] using h), nofun⟩

/-- The store's free moment begins a flush, or leaves image and write as they stand. -/
theorem storeFree_everyTables {s : State} (hs : s.everyTables P) : s.storeFree.everyTables P := by
  have due : s.dueFlush.everyTables P := by
    unfold State.dueFlush
    split
    · split
      · exact startFlush_everyTables hs
      · exact hs
    · exact hs
  have final : s.dueFlush.finalFlush.everyTables P := by
    unfold State.finalFlush
    split
    · split
      · exact due
      · split
        · exact startFlush_everyTables due
        · exact due
    · exact due
  unfold State.storeFree
  split
  · exact final
  · exact hs

variable (rule : TableRule P)
include rule

theorem TableRule.read {im : Image} (h : ∀ sec, im.table = some sec → P sec.tables) : ∀ t, im.read = some t → P t := by
  intro t read
  unfold Image.read at read
  split at read
  · cases read
  next sec valid =>
    split at read <;> cases read
    · exact h sec valid
    · exact rule.worn _ _ (h sec valid)

theorem TableRule.acts {s t : State} (h : Acts s t) (hs : s.everyTables P) : t.everyTables P := by
  obtain ⟨live, image, copy⟩ := hs
  have imageKept : t.store.image = s.store.image := congrArg Kept.image h.kept
  have storeKept : t.store.st = s.store.st := congrArg Kept.storeState h.kept
  exact ⟨rule.frame s t h.kept live, imageKept ▸ image, storeKept ▸ copy⟩

theorem TableRule.deeds {s t : State} (h : Deeds s t) (hs : s.everyTables P) : t.everyTables P := by
  induction h with
  | refl => exact hs
  | acts _ g ih => exact rule.acts g ih
  | node _ fits ih => exact ⟨rule.node _ _ _ fits ih.1, ih.2⟩
  | elem _ fits ih => exact ⟨rule.elem _ _ _ fits ih.1, ih.2⟩
  | conns _ fits ih => exact ⟨rule.conns _ _ _ fits ih.1, ih.2⟩
  | routes _ sorted ih => exact ⟨rule.routes _ _ sorted ih.1, ih.2⟩
  | settings _ grid steps lists ih => exact ⟨rule.settings _ _ grid steps lists ih.1, ih.2⟩
  | grid _ ih => exact ⟨rule.grid _ _ ih.1, ih.2⟩
  | @load u im _ image ih =>
    refine rule.acts (loadTables_acts u im) ⟨?_, ih.2⟩
    rw [replaced_tables]
    exact rule.worn _ _ (rule.read ih.2.1 _ image)
  | overruns _ ih => exact ih

theorem TableRule.effect {c : Instr} {s : State} {a : Answer} (h : Effect c s a) (hs : s.everyTables P) : a.2.everyTables P := by
  cases h with
  | unchanged _ => exact hs
  | done _ h => exact rule.deeds h hs
  | note _ _ => exact hs
  | save _ => exact ⟨hs.1, nofun, fun _ _ saving => StoreState.saving.inj saving |>.1 ▸ hs.1⟩
  | reset _ => exact storeFree_everyTables (s := { s with link := _ }) hs

/-- Every step keeps it, live and stored. -/
theorem TableRule.goes {s t : State} (h : Goes s t) (hs : s.everyTables P) : t.everyTables P := by
  induction h with
  | refl => exact hs
  | deeds _ g ih => exact rule.deeds g ih
  | @answered _ _ v _ _ _ g ih => cases v <;> exact rule.effect g ih
  | moment _ ih => exact ih
  | inputs _ ih => exact ih
  | life _ ih => exact ih
  | link _ _ _ ih => exact ih
  | start _ ih => exact ⟨rule.empty, ih.2.1, nofun⟩
  | @complete u k straps _ ih =>
    refine ⟨?_, ih.2⟩
    rw [completeStart_tables]
    cases read : u.store.image.read with
    | none => exact rule.empty
    | some im => exact rule.read ih.2.1 im read
  | flush _ ih => exact startFlush_everyTables ih
  | @saved _ copy since good _ _ saving ih =>
    refine ⟨ih.1, fun sec valid => ?_, nofun⟩
    cases good <;> cases valid
    exact ih.2.2 copy since saving
  | flushed _ _ ih => exact ⟨ih.1, fun sec valid => ih.2.1 sec (by simpa using valid), nofun⟩

end

/-! ### Canonical form -/

theorem tables_sorted_iff (s : State) : s.tables.sorted ↔
    tsorted s.nodes ∧ tsorted s.elems ∧ tsorted s.routes ∧ tsorted s.settings.steps ∧ tsorted s.settings.lists := by
  unfold Tables.sorted State.tables
  have elems : tsorted (s.elems.map (fun kv => (kv.1, (⟨kv.2.d, kv.2.losses, kv.2.wear⟩ : ElemImage)))) ↔ tsorted s.elems :=
    tsorted_congr (by simp [Function.comp_def])
  have routes : tsorted (s.routes.map (fun kv => (kv.1, kv.2.d))) ↔ tsorted s.routes := tsorted_congr (by simp [Function.comp_def])
  simp only [elems, routes]

theorem sorted_rule : TableRule Tables.sorted where
  empty := by simp [Tables.sorted, Tables.empty, Settings.defaults]
  frame s t kept h := by
    have elems := congrArg (List.map Prod.fst) (congrArg Kept.elemDefs kept)
    have routes := congrArg (List.map Prod.fst) (congrArg Kept.routeDefs kept)
    simp only [State.kept, List.map_map, Function.comp_def] at elems routes
    rw [tables_sorted_iff] at h ⊢
    rw [tsorted_congr elems, tsorted_congr routes, show t.nodes = s.nodes from congrArg Kept.nodes kept,
      show t.settings = s.settings from congrArg Kept.settings kept]
    exact h
  worn t f h := by
    obtain ⟨nodes, elems, rest⟩ := h
    exact ⟨nodes, tsorted_map elems _, rest⟩
  node s n x _ h := by
    obtain ⟨nodes, rest⟩ := h
    exact ⟨tsorted_tset nodes n x, rest⟩
  elem s e x _ h := by
    rw [tables_sorted_iff] at h ⊢
    obtain ⟨nodes, elems, rest⟩ := h
    exact ⟨nodes, tsorted_tset elems e x, rest⟩
  conns s e f _ h := by
    rw [tables_sorted_iff] at h ⊢
    obtain ⟨nodes, elems, rest⟩ := h
    exact ⟨nodes, tsorted_tmod elems e f, rest⟩
  routes s rs sorted h := by
    rw [tables_sorted_iff] at h ⊢
    obtain ⟨nodes, elems, routes, rest⟩ := h
    exact ⟨nodes, elems, sorted routes, rest⟩
  settings s c _ steps lists h := by
    obtain ⟨nodes, elems, routes, hsteps, hlists⟩ := h
    exact ⟨nodes, elems, routes, steps hsteps, lists hlists⟩
  grid s g h := by
    rw [tables_sorted_iff] at h ⊢
    obtain ⟨nodes, elems, rest⟩ := h
    exact ⟨tsorted_map nodes _, tsorted_map elems _, rest⟩

theorem wearTable_sorted {s : State} (h : s.tables.sorted) : tsorted s.wearTable := by
  obtain ⟨-, elems, -⟩ := (tables_sorted_iff s).1 h
  exact tsorted_map elems _

/-- A wear slot written keeps the other slot. -/
theorem setSlot_slots {Q : Table Wear → Prop} {im : Image} {b : Bool} {w : Option WearSlot}
    (slotA : ∀ x, im.slotA = some x → Q x.wear) (slotB : ∀ x, im.slotB = some x → Q x.wear) (new : ∀ x, w = some x → Q x.wear) :
    (∀ x, (im.setSlot b w).slotA = some x → Q x.wear) ∧ ∀ x, (im.setSlot b w).slotB = some x → Q x.wear := by
  cases b
  · exact ⟨new, slotB⟩
  · exact ⟨slotA, new⟩

theorem startFlush_wearTables {s : State} (live : tsorted s.wearTable) (hs : s.everyWearTable tsorted) :
    s.startFlush.everyWearTable tsorted := by
  obtain ⟨slotA, slotB, -⟩ := hs
  obtain ⟨a, b⟩ := setSlot_slots (b := s.store.image.flushTarget.1) (w := none) slotA slotB nofun
  exact ⟨a, b, fun toB w since flushing => (StoreState.flushing.inj flushing).2.1 ▸ live⟩

theorem storeFree_wearTables {s : State} (live : tsorted s.wearTable) (hs : s.everyWearTable tsorted) :
    s.storeFree.everyWearTable tsorted := by
  have due : s.dueFlush.everyWearTable tsorted ∧ tsorted s.dueFlush.wearTable := by
    unfold State.dueFlush
    split
    · split
      · exact ⟨startFlush_wearTables live hs, live⟩
      · exact ⟨hs, live⟩
    · exact ⟨hs, live⟩
  have final : s.dueFlush.finalFlush.everyWearTable tsorted := by
    unfold State.finalFlush
    split
    · split
      · exact due.1
      · split
        · exact startFlush_wearTables due.2 due.1
        · exact due.1
    · exact due.1
  unfold State.storeFree
  split
  · exact final
  · exact hs

theorem deeds_store {s t : State} (h : Deeds s t) : t.store.image = s.store.image ∧ t.store.st = s.store.st := by
  have acted {u v : State} (g : Acts u v) : v.store.image = u.store.image ∧ v.store.st = u.store.st :=
    ⟨congrArg Kept.image g.kept, congrArg Kept.storeState g.kept⟩
  induction h with
  | acts _ g ih => exact ⟨(acted g).1.trans ih.1, (acted g).2.trans ih.2⟩
  | @load u im _ _ ih => exact ⟨(acted (loadTables_acts u im)).1.trans ih.1, (acted (loadTables_acts u im)).2.trans ih.2⟩
  | refl => exact ⟨rfl, rfl⟩
  | _ => assumption

theorem effect_wearTables {c : Instr} {s : State} {a : Answer} (h : Effect c s a) (live : tsorted s.wearTable)
    (hs : s.everyWearTable tsorted) : a.2.everyWearTable tsorted := by
  cases h with
  | unchanged _ => exact hs
  | done _ h =>
    obtain ⟨image, st⟩ := deeds_store h
    unfold State.everyWearTable at hs ⊢
    rwa [image, st]
  | note _ _ => exact hs
  | save _ => exact ⟨hs.1, hs.2.1, nofun⟩
  | reset _ => exact storeFree_wearTables (s := { s with link := _ }) live hs

theorem goes_wearTables {s t : State} (h : Goes s t) (hs : s.canonical) : t.everyWearTable tsorted := by
  induction h with
  | refl => exact hs.2
  | deeds _ g ih =>
    obtain ⟨image, st⟩ := deeds_store g
    unfold State.everyWearTable at ih ⊢
    rwa [image, st]
  | @answered _ _ v _ h _ g ih =>
    have live := wearTable_sorted (sorted_rule.goes h hs.1).1
    cases v <;> exact effect_wearTables g live ih
  | moment _ ih => exact ih
  | inputs _ ih => exact ih
  | life _ ih => exact ih
  | link _ _ _ ih => exact ih
  | start _ ih => exact ⟨ih.1, ih.2.1, nofun⟩
  | complete _ ih => exact ih
  | flush h ih => exact startFlush_wearTables (wearTable_sorted (sorted_rule.goes h hs.1).1) ih
  | saved _ _ ih => exact ⟨ih.1, ih.2.1, nofun⟩
  | @flushed _ toB copy since good _ flushing ih =>
    obtain ⟨slotA, slotB, write⟩ := ih
    have new : ∀ x, (if good then some copy else none) = some x → tsorted x.wear := by
      intro x hx
      cases good <;> cases hx
      exact write toB copy since flushing
    obtain ⟨a, b⟩ := setSlot_slots (b := toB) slotA slotB new
    exact ⟨a, b, nofun⟩

/-- Settles O5: every table written is written in key order, every table read is one that was written, and a save copies the live
tables. -/
theorem tablesStayCanonical : Obligations.TablesStayCanonical := fun _ _ hs h =>
  ⟨sorted_rule.goes (step_goes h) hs.1, goes_wearTables (step_goes h) hs⟩

/-! ### Loss lists -/

theorem tables_lossesFit_iff (s : State) : s.tables.lossesFit ↔
    (∀ kv ∈ s.elems, kv.2.fits s.settings.grid) ∧ ∀ kv ∈ s.nodes, kv.2.fits s.settings.grid := by
  simp only [Tables.lossesFit, State.tables, Element.fits, connsFit, Node.fits, List.forall_mem_map]

theorem lossesFit_rule : TableRule Tables.lossesFit where
  empty := ⟨nofun, nofun⟩
  frame s t kept h := by
    have elems : t.elems.map (fun kv => (kv.1, kv.2.d, kv.2.losses)) = s.elems.map (fun kv => (kv.1, kv.2.d, kv.2.losses)) :=
      congrArg Kept.elemDefs kept
    have fits (u : State) : (∀ kv ∈ u.elems, kv.2.fits s.settings.grid) ↔
        ∀ kd ∈ u.elems.map (fun kv => (kv.1, kv.2.d, kv.2.losses)), connsFit s.settings.grid kd.2.1.kind kd.2.2 := by
      simp only [List.forall_mem_map, Element.fits]
    rw [tables_lossesFit_iff] at h ⊢
    rw [show t.nodes = s.nodes from congrArg Kept.nodes kept, show t.settings = s.settings from congrArg Kept.settings kept,
      fits, elems, ← fits]
    exact h
  worn t f h := ⟨all_map (P := fun x : ElemImage => connsFit t.settings.grid x.d.kind x.losses) h.1, h.2⟩
  node s n x fits h := by
    rw [tables_lossesFit_iff] at h ⊢
    exact ⟨h.1, all_tset h.2 fits⟩
  elem s e x fits h := by
    rw [tables_lossesFit_iff] at h ⊢
    exact ⟨all_tset h.1 fits, h.2⟩
  conns s e f fits h := by
    rw [tables_lossesFit_iff] at h ⊢
    exact ⟨all_tmod h.1 fits, h.2⟩
  routes s rs _ h := h
  settings s c grid _ _ h := by
    rw [tables_lossesFit_iff] at h ⊢
    exact grid ▸ h
  grid s g _ := by
    rw [tables_lossesFit_iff]
    refine ⟨all_map fun kv _ => connsFit_zeros g kv.2.d.kind, all_map fun kv _ => ?_⟩
    by_cases inner : kv.2.kind = .inner
    · simpa [Node.fits, inner, State.setGrid] using lossListFits_zeros g
    · simp [Node.fits, inner]

/-- Settles O8: a new grid zeroes every list, a new record takes zeros, and a list given is written only when it fits. -/
theorem lossListsFitTheGrid : Obligations.LossListsFitTheGrid := fun _ _ hs h => lossesFit_rule.goes (step_goes h) hs

/-! ### Queues -/

theorem queueNotice_overflow {q : List Notice} {last : Notice} (n : Notice) (newest : q.getLast? = some last)
    (overflow : last.kind = .overflow) : queueNotice q n = q.dropLast ++ [raiseOverflow last] := by
  simp [queueNotice, newest, overflow]

theorem queueNotice_append {q : List Notice} {last : Notice} (n : Notice) (newest : q.getLast? = some last)
    (plain : last.kind ≠ .overflow) (room : q.length ≤ 14) : queueNotice q n = q ++ [n] := by
  simp [queueNotice, newest, plain, room]

theorem queueNotice_full {q : List Notice} {last : Notice} (n : Notice) (newest : q.getLast? = some last)
    (plain : last.kind ≠ .overflow) (full : 14 < q.length) :
    queueNotice q n = q ++ [⟨.overflow, n.time, vWord (noticeText n.kind), vNum 1⟩] := by
  simp [queueNotice, newest, plain, Nat.not_le.2 full]

theorem raiseOverflow_kind (n : Notice) : (raiseOverflow n).kind = n.kind := by
  unfold raiseOverflow
  split <;> rfl

/-- Taking a notice keeps the queue of R193. -/
theorem noticesLegal_queueNotice {q : List Notice} {n : Notice} (h : noticesLegal q) : noticesLegal (queueNotice q n) := by
  obtain ⟨length, older, full⟩ := h
  cases newest : q.getLast? with
  | none =>
    rw [List.getLast?_eq_none_iff.1 newest]
    exact ⟨by simp [queueNotice], by simp [queueNotice], by simp [queueNotice]⟩
  | some last =>
    have parts : q.dropLast ++ [last] = q := List.dropLast_append_getLast? last newest
    by_cases overflow : last.kind = .overflow
    · rw [queueNotice_overflow n newest overflow]
      refine ⟨?_, by simpa using older, fun _ => ⟨_, List.getLast?_concat .., (raiseOverflow_kind _).trans overflow⟩⟩
      have count := congrArg List.length parts
      rw [List.length_append, List.length_singleton] at count
      rw [List.length_append, List.length_singleton, count]
      exact length
    · have plainAll : ∀ m ∈ q, m.kind ≠ .overflow := by
        intro m hm
        rw [← parts] at hm
        rcases List.mem_append.1 hm with old | new
        · exact older m old
        · exact List.mem_singleton.1 new ▸ overflow
      have below : q.length ≤ 15 := by
        by_contra long
        obtain ⟨m, hm, kind⟩ := full (by omega)
        exact overflow (Option.some.inj (newest.symm.trans hm) ▸ kind)
      by_cases room : q.length ≤ 14
      · rw [queueNotice_append n newest overflow room]
        refine ⟨by simp; omega, by simpa using plainAll, fun h16 => ?_⟩
        simp only [List.length_append, List.length_singleton] at h16
        omega
      · rw [queueNotice_full n newest overflow (Nat.not_le.1 room)]
        exact ⟨by simp; omega, by simpa using plainAll, fun _ => ⟨_, List.getLast?_concat .., rfl⟩⟩

/-- The queue of R193 with its oldest entry taken away. -/
theorem noticesLegal_tail {n : Notice} {q : List Notice} (h : noticesLegal (n :: q)) : noticesLegal q := by
  obtain ⟨length, older, -⟩ := h
  simp only [List.length_cons] at length
  refine ⟨by omega, fun m hm => ?_, fun full => by omega⟩
  cases q with
  | nil => cases hm
  | cons b q => exact older m (List.mem_cons_of_mem _ hm)

/-- The queues the machine works on itself: waiting plans and notices. -/
def State.workBounded (s : State) : Prop := s.engine.waiting.length ≤ 4 ∧ noticesLegal s.notices

theorem Acts.workBounded {s t : State} (h : Acts s t) (hs : s.workBounded) : t.workBounded := by
  induction h with
  | refl => exact hs
  | notify _ ih => exact ⟨ih.1, noticesLegal_queueNotice ih.2⟩
  | waiting _ fewer ih => exact ⟨fewer.trans ih.1, ih.2⟩
  | @place t _ _ room ih => exact ⟨by simpa using room, ih.2⟩
  | _ => assumption

theorem Deeds.workBounded {s t : State} (h : Deeds s t) (hs : s.workBounded) : t.workBounded := by
  induction h with
  | refl => exact hs
  | acts _ g ih => exact g.workBounded ih
  | @load u im _ _ ih => exact (loadTables_acts u im).workBounded ih
  | _ => assumption

/-- No deed touches the queues of the link. -/
theorem Deeds.linkQueues {s t : State} (h : Deeds s t) : t.link.inbound = s.link.inbound ∧ t.link.replies = s.link.replies := by
  have acted {u v : State} (g : Acts u v) : v.link = u.link := congrArg Kept.link g.kept
  induction h with
  | refl => exact ⟨rfl, rfl⟩
  | acts _ g ih => rwa [acted g]
  | @load u im _ _ ih => rwa [acted (loadTables_acts u im)]
  | _ => assumption

/-- The store's free moment changes the store and the stop of the interpreter, and nothing else. -/
theorem storeFree_eq (s : State) : ∃ S F, s.storeFree = { s with store := S, link := { s.link with stop := F } } := by
  have due (u : State) : ∃ S, u.dueFlush = { u with store := S } := by
    unfold State.dueFlush
    split
    · split <;> exact ⟨_, rfl⟩
    · exact ⟨_, rfl⟩
  have final (u : State) : ∃ S F, u.finalFlush = { u with store := S, link := { u.link with stop := F } } := by
    unfold State.finalFlush
    split
    · split
      · exact ⟨_, _, rfl⟩
      · split <;> exact ⟨_, _, rfl⟩
    · exact ⟨_, _, rfl⟩
  unfold State.storeFree
  split
  · obtain ⟨S, hS⟩ := due s
    obtain ⟨S', F, hF⟩ := final { s with store := S }
    exact ⟨S', F, hS ▸ hF⟩
  · exact ⟨_, _, rfl⟩

theorem effect_workBounded {c : Instr} {s : State} {a : Answer} (h : Effect c s a) (hs : s.workBounded) : a.2.workBounded := by
  cases h with
  | unchanged _ => exact hs
  | done _ h => exact h.workBounded hs
  | note _ queued => exact ⟨hs.1, noticesLegal_tail (queued ▸ hs.2)⟩
  | save _ => exact hs
  | reset _ =>
    obtain ⟨S, F, eq⟩ := storeFree_eq { s with link := { s.link with stop := some .waiting } }
    rw [eq]
    exact hs

/-- No command touches the queues of the link: its reply is placed after it. -/
theorem Effect.linkQueues {c : Instr} {s : State} {a : Answer} (h : Effect c s a) :
    a.2.link.inbound = s.link.inbound ∧ a.2.link.replies = s.link.replies := by
  cases h with
  | unchanged _ => exact ⟨rfl, rfl⟩
  | done _ h => exact h.linkQueues
  | note _ _ => exact ⟨rfl, rfl⟩
  | save _ => exact ⟨rfl, rfl⟩
  | reset _ =>
    obtain ⟨S, F, eq⟩ := storeFree_eq { s with link := { s.link with stop := some .waiting } }
    rw [eq]
    exact ⟨rfl, rfl⟩

theorem Goes.workBounded {s t : State} (h : Goes s t) (hs : s.workBounded) : t.workBounded := by
  induction h with
  | refl => exact hs
  | deeds _ g ih => exact g.workBounded ih
  | @answered _ _ v _ _ _ g ih => cases v <;> exact effect_workBounded g ih
  | start _ _ => exact ⟨Nat.zero_le _, by simp [noticesLegal, State.beginStart]⟩
  | complete _ ih => exact ⟨ih.1, by simp [noticesLegal, State.completeStart]⟩
  | _ => assumption

/-- The queues of the link within their bounds (R184, R186). -/
def State.linkBounded (s : State) : Prop := s.link.inbound.length ≤ 8 ∧ s.link.replies.length ≤ 8

theorem Goes.linkBounded {s t : State} (h : Goes s t) (hs : s.linkBounded) : t.linkBounded := by
  induction h with
  | refl => exact hs
  | deeds _ g ih => exact ⟨g.linkQueues.1 ▸ ih.1, g.linkQueues.2 ▸ ih.2⟩
  | @answered u _ v _ _ ready g ih =>
    obtain ⟨inbound, replies⟩ := g.linkQueues
    cases v with
    | broadcast => exact ⟨inbound ▸ ih.1, replies ▸ ih.2⟩
    | addressed =>
      have room : u.link.replies.length < 8 := by
        simp only [State.ready, Bool.and_eq_true, Bool.or_eq_true, decide_eq_true_eq] at ready
        exact ready.2.resolve_left nofun
      refine ⟨by simpa [State.reply, inbound] using ih.1, ?_⟩
      simpa [State.reply, replies] using room
  | link _ inbound replies ih => exact ⟨inbound ih.1, replies ih.2⟩
  | start _ _ => exact ⟨Nat.zero_le _, Nat.zero_le _⟩
  | _ => assumption

/-- Settles O6: a plan is placed only where there is room, a record joins and a reply is placed only below eight, and the Notice Queue
takes a notice by R193. -/
theorem queuesStayBounded : Obligations.QueuesStayBounded := by
  intro s t ⟨waiting, inbound, replies, notices⟩ h
  have work := (step_goes h).workBounded ⟨waiting, notices⟩
  have link := (step_goes h).linkBounded ⟨inbound, replies⟩
  exact ⟨work.1, link.1, link.2, work.2⟩

/-! ### A quiet machine in IDLE -/

theorem Acts.idleQuiet {s t : State} (h : Acts s t) (hs : s.idleQuiet) : t.idleQuiet := by
  induction h with
  | refl => exact hs
  | run _ _ => exact nofun
  | timers _ armed _ => exact fun idle => absurd idle armed
  | pace _ started ih =>
    intro idle
    obtain ⟨outs, phase, rest⟩ := ih idle
    rw [started phase]
    exact ⟨outs, phase, rest⟩
  | @low _ o _ ih =>
    intro idle
    obtain ⟨outs, rest⟩ := ih idle
    refine ⟨?_, rest⟩
    rw [State.setOut_timers, outs]
    exact Vector.ext fun i hi => by simp
  | idle _ _ => exact fun _ => ⟨rfl, rfl, rfl, rfl, rfl⟩
  | _ => assumption

theorem Deeds.idleQuiet {s t : State} (h : Deeds s t) (hs : s.idleQuiet) : t.idleQuiet := by
  induction h with
  | refl => exact hs
  | acts _ g ih => exact g.idleQuiet ih
  | @load u im _ _ ih => exact (loadTables_acts u im).idleQuiet ih
  | _ => assumption

theorem effect_idleQuiet {c : Instr} {s : State} {a : Answer} (h : Effect c s a) (hs : s.idleQuiet) : a.2.idleQuiet := by
  cases h with
  | unchanged _ => exact hs
  | done _ h => exact h.idleQuiet hs
  | note _ _ => exact hs
  | save _ => exact hs
  | reset _ =>
    obtain ⟨S, F, eq⟩ := storeFree_eq { s with link := { s.link with stop := some .waiting } }
    rw [eq]
    exact hs

theorem Goes.idleQuiet {s t : State} (h : Goes s t) (hs : s.idleQuiet) : t.idleQuiet := by
  induction h with
  | refl => exact hs
  | deeds _ g ih => exact g.idleQuiet ih
  | @answered _ _ v _ _ _ g ih => cases v <;> exact effect_idleQuiet g ih
  | start _ _ => exact fun _ => ⟨rfl, rfl, rfl, rfl, rfl⟩
  | complete _ ih =>
    intro idle
    obtain ⟨outs, -, -, rest⟩ := ih idle
    exact ⟨outs, rfl, rfl, rest⟩
  | _ => assumption

/-- Settles O7: timers and outputs change only while a list is armed, a stopped pace timer stays as it is, and the return to IDLE stops
them all. -/
theorem idleStaysQuiet : Obligations.IdleStaysQuiet := fun _ _ hs h => (step_goes h).idleQuiet hs

end Sys2Proof.Machine
end
-- ==== Sys2Proof/Proofs/Interpreter.lean ====
section
/-! PROOFS. The interpreter: records taken, queued, overrun or dropped, what a reply tells, and which commands change nothing; and what
an empty command queue does. -/

namespace Sys2Proof.Machine

/-! ### Taking a record -/

@[simp] theorem settled_link (s : State) : s.settled.link = s.link := congrArg Kept.link (settled_kept s)

@[simp] theorem settled_image (s : State) : s.settled.store.image = s.store.image := congrArg Kept.image (settled_kept s)

theorem reply_image (s : State) (v : Via) (r : Reply) : (s.reply v r).store.image = s.store.image := by
  cases v <;> rfl

/-- The queues of the link after a record is taken: nothing more inbound, and its reply at the tail when it was addressed. -/
theorem take_queues (s : State) (c : Instr) (v : Via) :
    (s.take v (answerOf c)).link.inbound = s.link.inbound ∧
      (s.take v (answerOf c)).link.replies =
        s.link.replies ++ (match v with | .addressed => [(answerOf c s).1] | .broadcast => []) := by
  obtain ⟨inbound, replies⟩ := (answerOf_effect c s).linkQueues
  cases v with
  | addressed => simp [State.take, State.reply, inbound, replies]
  | broadcast => simp [State.take, State.reply, inbound, replies]

/-- A command whose record a station takes. -/
theorem exec_take {c : Instr} {s : State} (record : c.isRecord = true) (takes : s.takes c.via) :
    exec c s = .next (s.take c.via (answerOf c)) := by
  rw [exec_record record, receive_take takes.1 takes.2.1 takes.2.2]

/-! ### Refusals and queries -/

/-- A command that answers NAK leaves the state as it found it (R191). -/
theorem Effect.refused {c : Instr} {s t : State} {code : Code} {detail : Val} (h : Effect c s (.nak code detail, t)) : t = s := by
  cases h
  rfl

/-- A query that only reads leaves the state as it found it. -/
theorem Effect.pureQuery {c : Instr} {s : State} {a : Answer} (h : Effect c s a) (query : c.isPureQuery = true) : a.2 = s := by
  have writesNot : c.writesImage = false := by
    cases c <;> first | rfl | cases query
  cases h with
  | unchanged _ => rfl
  | done acting _ => cases query.symm.trans acting
  | note acting _ => cases query.symm.trans acting
  | save writes => cases writesNot.symm.trans writes
  | reset writes => cases writesNot.symm.trans writes

theorem pureQuery_isRecord {c : Instr} (query : c.isPureQuery = true) : c.isRecord = true ∧ c.via = .addressed := by
  cases c <;> first | exact ⟨rfl, rfl⟩ | cases query

/-- Settles O11: a reply tells which answer the command gave, and a command that answers NAK has changed nothing. -/
theorem refusalChangesNothing : Obligations.RefusalChangesNothing := by
  intro c s t code detail record via ⟨takes, calm⟩ runs replies
  rw [← via] at takes
  cases (exec_take record takes).symm.trans runs
  have tail : (answerOf c s).1 = .nak code detail := by
    have := (take_queues s c c.via).2.symm.trans replies
    rw [via] at this
    exact List.singleton_inj.1 (List.append_cancel_left this)
  have answer : answerOf c s = (.nak code detail, (answerOf c s).2) := Prod.ext tail rfl
  have same : (answerOf c s).2 = s := (answer ▸ answerOf_effect c s).refused
  rw [State.take, tail, same, via]
  exact settled_calm (reply_calm _ _ calm)

/-- Settles O12: the command is answered once at the tail, and the chain that follows leaves the link alone. -/
theorem oneReplyEach : Obligations.OneReplyEach := by
  intro c s t record takes runs
  cases (exec_take record takes).symm.trans runs
  obtain ⟨inbound, replies⟩ := take_queues s c c.via
  refine ⟨inbound.trans takes.2.1, fun via => ⟨(answerOf c s).1, ?_⟩, fun via => ?_⟩
  · rw [replies, via]
  · rw [replies, via, List.append_nil]

/-- Settles O16: each query's row reads and answers. -/
theorem queriesChangeNothing : Obligations.QueriesChangeNothing := by
  intro c s query ⟨takes, calm⟩
  obtain ⟨record, via⟩ := pureQuery_isRecord query
  refine ⟨(answerOf c s).1, ?_⟩
  rw [exec_take record (via ▸ takes), State.take, (answerOf_effect c s).pureQuery query, via]
  exact congrArg _ (settled_calm (reply_calm _ _ calm))

/-! ### Records that wait -/

/-- While the head of the queue cannot be taken, nothing is. -/
theorem drain_waits {s : State} {h : Instr} (n : Nat) (head : s.link.inbound.head? = some h) (busy : s.ready h.via = false) :
    s.drain n = s := by
  cases n with
  | zero => rfl
  | succ n =>
    obtain ⟨rest, queued⟩ := List.head?_eq_some_iff.1 head
    simp [State.drain, queued, busy]

/-- A record that joins a queue whose head cannot be taken stays there. -/
theorem arrive_waits {s : State} {c h : Instr} (head : (s.link.inbound ++ [c]).head? = some h) (busy : s.ready h.via = false) :
    s.arrive c = s.join c := by
  refine drain_waits 9 (h := h) ?_ ?_
  · unfold State.join
    split
    · exact head
    next full =>
      obtain ⟨first, rest, queued⟩ := List.exists_cons_of_ne_nil (l := s.link.inbound) (by rintro empty; simp [empty] at full)
      simpa [queued] using head
  · unfold State.join
    split <;> exact busy

/-- The head of the one record received into a queue it waits in. -/
theorem receive_waits {s : State} {c h : Instr} {cmd : State → Answer} (hears : s.hears c.via = true)
    (head : (s.link.inbound ++ [c]).head? = some h) (busy : s.ready h.via = false) : s.receive c cmd = s.join c := by
  have waits : ¬ (s.link.inbound = [] ∧ s.ready c.via = true) := by
    rintro ⟨empty, ready⟩
    rw [empty] at head
    cases head
    cases ready.symm.trans busy
  rw [State.receive, if_pos hears, if_neg waits, arrive_waits head busy]

/-- Settles O13: nothing can be taken while the head cannot, so the record joins below eight and is an overrun above. -/
theorem recordsQueueInOrder : Obligations.RecordsQueueInOrder := by
  intro c h s record hears head busy
  have joins : exec c s = .next (s.join c) := by rw [exec_record record, receive_waits hears head busy]
  refine ⟨fun room => ?_, fun full => ?_⟩
  · rw [joins, State.join, if_pos room]
  · rw [joins, State.join, if_neg (Nat.not_lt.2 full)]
    rfl

/-- Settles O14: a station hears only while it runs, and at address 0 only broadcasts. -/
theorem deafStationsAreUnchanged : Obligations.DeafStationsAreUnchanged := by
  intro c s record
  have deaf (h : s.hears c.via = false) : exec c s = .next s := by rw [exec_record record, receive_deaf h]
  refine ⟨fun stopped => ⟨deaf (by simp [State.hears, stopped]), ?_, fun code framing => ?_⟩, fun zero via => ?_⟩
  · exact congrArg _ (if_neg stopped)
  · exact congrArg _ (if_neg stopped)
  · exact deaf (by simp [State.hears, zero, via])

/-! ### A record of the line acts as its command -/

/-- The one record of the queue is taken when it can be. -/
theorem drain_one {s : State} {c : Instr} (n : Nat) (queued : s.link.inbound = [c]) (ready : s.ready c.via = true) :
    s.drain (n + 1) = ({ s with link := { s.link with inbound := [] } }).take c.via (answerOf c) := by
  have empty := (take_queues { s with link := { s.link with inbound := [] } } c c.via).1
  simp only [State.drain, queued, ready, if_true]
  exact drain_empty n empty

/-- A record that arrives at a station that hears it is received as its command is. -/
theorem arrive_eq_receive {s : State} {c : Instr} (hears : s.hears c.via = true) : s.arrive c = s.receive c (answerOf c) := by
  rw [State.receive, if_pos hears]
  split
  next free =>
    have joined : s.join c = { s with link := { s.link with inbound := [c] } } := by
      simp [State.join, free.1]
    have same : ({ s with link := { s.link with inbound := [] } } : State) = s := by
      rw [← free.1]
    rw [State.arrive, joined, drain_one 8 rfl (show ({ s with link := { s.link with inbound := [c] } } : State).ready c.via
      = true from free.2)]
    exact congrArg (fun u : State => u.take c.via (answerOf c)) same
  · rfl

/-- What a table of commands finds is a record's command when all its rows are. -/
theorem find_isRecord {α : Type} {table : List α} {pick : α → Instr} {p : α → Bool}
    (all : table.all (fun row => (pick row).isRecord) = true) {c : Instr} (found : (table.find? p).map pick = some c) :
    c.isRecord = true := by
  obtain ⟨row, hrow, rfl⟩ := Option.map_eq_some_iff.1 found
  exact List.all_eq_true.1 all row (List.mem_of_find?_eq_some hrow)

theorem plainCommand_isRecord {m : List Char} {args : List Arg} {c : Instr} (h : plainCommand m args = some c) :
    c.isRecord = true := by
  unfold plainCommand at h
  dsimp only at h
  refine find_isRecord ?_ h
  by_cases all : args = [.one (.word .all)]
  · rw [if_pos all]; rfl
  · rw [if_neg all]; rfl

theorem keywordCommand_isRecord {m k : List Char} {args : List Arg} {c : Instr} (h : keywordCommand m k args = some c) :
    c.isRecord = true := by
  unfold keywordCommand at h
  dsimp only at h
  exact find_isRecord rfl h

theorem getD_badRecord_isRecord {o : Option Instr} (h : ∀ c, o = some c → c.isRecord = true) :
    (o.getD .badRecord).isRecord = true := by
  cases o with
  | none => rfl
  | some c => exact h c rfl

/-- The text of an addressed record spells a record, if only a bad one. -/
theorem parseAddressed_isRecord (body : List Char) : (parseAddressed body).isRecord = true := by
  have plain (m x : List Char) : (((lexArgs x).bind (plainCommand m)).getD .badRecord).isRecord = true :=
    getD_badRecord_isRecord fun c h => by
      obtain ⟨args, -, found⟩ := Option.bind_eq_some_iff.1 h
      exact plainCommand_isRecord found
  unfold parseAddressed
  split
  · exact getD_badRecord_isRecord fun c h => plainCommand_isRecord h
  · split
    next found => exact keywordCommand_isRecord found
    · exact plain _ _
  · refine getD_badRecord_isRecord fun c h => ?_
    obtain ⟨args, -, found⟩ := Option.bind_eq_some_iff.1 h
    exact keywordCommand_isRecord found
  · rfl

/-- The text of a broadcast record spells a broadcast command. -/
theorem parseBroadcast_isRecord {body : List Char} {c : Instr} (h : parseBroadcast body = some c) :
    c.isRecord = true ∧ c.via = .broadcast := by
  unfold parseBroadcast at h
  split at h
  · dsimp only at h
    obtain ⟨row, found, rfl⟩ := Option.map_eq_some_iff.1 h
    have row := List.mem_of_find?_eq_some found
    simp only [List.mem_cons, List.not_mem_nil, or_false] at row
    rcases row with rfl | rfl | rfl | rfl <;> exact ⟨rfl, rfl⟩
  · cases h

/-- A reply leaves a station where no record waits. -/
theorem replyEnds_empty {s : State} (t : Micros) (empty : s.link.inbound = []) :
    s.replyEnds t = { s.at t with link := { s.link with
      replies := s.link.replies.drop 1, sending := none, lastChar := max s.link.lastChar (max s.now t) } } :=
  drain_empty 9 empty

/-- A reply leaves, and the one record waiting is taken. -/
theorem replyEnds_one {s : State} {c : Instr} (t : Micros) (queued : s.link.inbound = [c]) (stop : s.link.stop = none)
    (room : (s.link.replies.drop 1).length < 8) :
    s.replyEnds t = ({ s.at t with link := { s.link with
      inbound := [], replies := s.link.replies.drop 1, sending := none,
      lastChar := max s.link.lastChar (max s.now t) } } : State).take c.via (answerOf c) :=
  drain_one 8 queued (by
    simp only [State.ready, State.at_link, stop, Option.isNone_none, room, decide_true, Bool.or_true, Bool.and_true])

section
variable {s : State} {kept : List (Char × Bool)} {count addr : Nat} {bad : Bool} {body : List Char} (runs : s.life = .running)
  (inside : s.link.receive = .inside kept count bad)
include runs inside

/-- The CR of a record that becomes a command. -/
theorem recordReceived_routed {c : Instr} (routed : s.routeRecord kept bad = some c) (record : c.isRecord = true)
    (hears : s.hears c.via = true) :
    exec .recordReceived s = exec c { s with link := { s.link with receive := .outside } } := by
  rw [exec_record record]
  refine congrArg _ ((if_pos runs).trans ?_)
  simp only [State.endRecord, inside, routed]
  exact arrive_eq_receive hears

/-- The CR of a record that is dropped. -/
theorem recordReceived_dropped (routed : s.routeRecord kept bad = none) :
    exec .recordReceived s = .next { s with link := { s.link with receive := .outside } } := by
  refine congrArg _ ((if_pos runs).trans ?_)
  simp only [State.endRecord, inside, routed]

end

/-- Settles O15: the record routed by its address arrives as its command's record does, and so does the one that a reply leaving
lets in. -/
theorem receivedRecordsActAsTheirCommands : Obligations.ReceivedRecordsActAsTheirCommands := by
  refine ⟨fun s kept count addr bad body runs inside address => ⟨fun mine some0 => ?_, fun c all good spells => ?_, fun other => ?_⟩,
    fun s c r q t0 runs record hears stop queued replies room sending => ?_⟩
  · have record : (if bad then Instr.badRecord else parseAddressed body).isRecord = true := by
      split
      · rfl
      · exact parseAddressed_isRecord body
    refine recordReceived_routed runs inside (by simp [State.routeRecord, address, ← mine, some0]) record ?_
    simp [State.hears, runs, ← mine, some0]
  · obtain ⟨record, via⟩ := parseBroadcast_isRecord spells
    exact recordReceived_routed runs inside (by simp [State.routeRecord, address, all, good, spells]) record
      (by simp [State.hears, runs, via])
  · refine recordReceived_dropped runs inside ?_
    simp only [State.routeRecord, address]
    rcases other with ⟨notMine, some0⟩ | ⟨all, dropped⟩
    · simp [notMine, some0]
    · rcases dropped with bad | none <;> simp [*]
  · have sent : s.sentDue = some (t0 + charsTime s.straps.baud (s.replyLength r)) := by simp [State.sentDue, replies, sending]
    have ends : exec .replySent s = .next (s.replyEnds (t0 + charsTime s.straps.baud (s.replyLength r))) := by
      simp [exec, execReplySent, runs, sent]
    intro t
    rw [ends, exec_record record]
    rw [replyEnds_one _ queued stop (by rw [replies]; exact room), replies]
    refine congrArg _ (receive_take (c := c) ?_ rfl ?_).symm
    · exact hears
    · simp [State.ready, stop, room]

/-! ### The non-volatile memory -/

theorem Effect.image {c : Instr} {s : State} {a : Answer} (h : Effect c s a) (reads : c.writesImage = false) :
    a.2.store.image = s.store.image := by
  cases h with
  | unchanged _ => rfl
  | done _ h => exact (deeds_store h).1
  | note _ _ => rfl
  | save writes => cases reads.symm.trans writes
  | reset writes => cases reads.symm.trans writes

theorem Acts.image {s t : State} (h : Acts s t) : t.store.image = s.store.image := congrArg Kept.image h.kept

theorem during_image {s : State} {go : State → State} (h : (go s).store.image = s.store.image) :
    (s.during go).store.image = s.store.image := by
  unfold State.during
  split
  · rwa [settled_image]
  · rfl

theorem whenDue_image {s : State} {due : Option Micros} {go : State → State} (h : ∀ t, Acts (s.at t) (go (s.at t))) :
    (s.whenDue due go).store.image = s.store.image := by
  unfold State.whenDue
  split
  · exact during_image (h _).image
  · rfl

/-- A record received with nothing queued: taken alone, queued, or not heard. -/
theorem receive_image {s : State} {c : Instr} (empty : s.link.inbound = []) (reads : c.writesImage = false) :
    (s.receive c (answerOf c)).store.image = s.store.image := by
  by_cases hears : s.hears c.via = true
  · by_cases ready : s.ready c.via = true
    · rw [receive_take hears empty ready, State.take, settled_image, reply_image, (answerOf_effect c s).image reads]
    · rw [receive_waits (h := c) hears (by simp [empty]) (by simpa using ready)]
      unfold State.join
      split <;> rfl
  · rw [receive_deaf (by simpa using hears)]

/-- Settles O17: what follows a command at the same moment leaves the memory alone, and so does every command but the store's own. -/
theorem onlyTheStoreWritesTheImage : Obligations.OnlyTheStoreWritesTheImage := by
  intro c s t empty reads runs
  have branch {p : Prop} [Decidable p] {u v : State} (hu : u.store.image = s.store.image) (hv : v.store.image = s.store.image) :
      (if p then u else v).store.image = s.store.image := by
    split <;> assumption
  cases c with
  | save _ | reset _ | flushClockExpiry | saveComplete _ | flushComplete _ | recordReceived => cases reads
  | linkBreak | replyPairCharacter => cases runs; exact branch rfl rfl
  | replyTransmitStart =>
    cases runs
    refine branch ?_ rfl
    split <;> rfl
  | replySent =>
    cases runs
    refine branch ?_ rfl
    split
    · rw [replyEnds_empty _ empty]
      rfl
    · rfl
  | commandPairCharacter code framing =>
    cases runs
    refine branch ?_ rfl
    unfold State.character
    split
    next cr =>
      have : code = 13#8 := BitVec.eq_of_toNat_eq (by simpa using cr.1)
      simp [Instr.writesImage, this, cr.2] at reads
    · rfl
  | quietChange high => cases runs; exact during_image (branch (quietFell_work _).acts.image rfl)
  | detectorReading d x => cases runs; exact during_image (judgeDetector_acts _ d).image
  | muteTimeout => cases runs; exact whenDue_image fun _ => muteExpires_acts _
  | releaseIntervalEnd => cases runs; exact whenDue_image fun _ => Acts.refl.guard
  | waveStart b => cases runs; exact whenDue_image fun _ => (startWave_work _ b).acts
  | waveEnd b => cases runs; exact whenDue_image fun _ => (endWave_work _ b).acts
  | retryStart b => cases runs; exact whenDue_image fun _ => (startRetry_work _ b).acts
  | elementReady e => cases runs; exact whenDue_image fun _ => (readyNow_work _ e).acts
  | supplyChange v =>
    cases runs
    refine during_image (branch rfl ?_)
    unfold State.supplyChanged
    have clocked {st : SupplyState} (t : State) : (t.modFlight (holdClock s.now st)).store.image = t.store.image :=
      (modFlight_work t (holdClock_plan _ _)).acts.image
    exact branch ((startBanks_work _).acts.image.trans (clocked _)) (clocked _)
  | holdLimitExpiry => cases runs; exact whenDue_image fun _ => (holdExpires_work _).acts
  | senseReportChange b slot closed => cases runs; exact branch rfl (during_image (newReport_work _ b slot).acts.image)
  | readingCounted e => cases runs; exact whenDue_image fun _ => (countReading_work _ e).acts
  | triggerInputChange i high => cases runs; exact branch rfl (during_image (rawChange_acts _ i high).image)
  | qualificationEnd i => cases runs; exact whenDue_image fun _ => filteredChange_acts _ i _
  | paceExpiry =>
    cases runs
    show (s.whenDue s.paceDue _).store.image = _
    unfold State.whenDue
    split
    · exact during_image (advanceEvent_acts _ _).image
    · rfl
  | windowClose => cases runs; exact whenDue_image fun _ => windowCloses_acts _
  | dwellExpiry => cases runs; exact whenDue_image fun _ => dwellExpires_acts _
  | outputPulseEnd o => cases runs; exact whenDue_image fun _ => Acts.refl.low
  | commandStart | powerStart | powerLoss => cases runs; exact branch rfl rfl
  | lineStart => cases runs; exact branch rfl (branch rfl rfl)
  | resetRelease =>
    cases runs
    refine branch ?_ rfl
    split <;> rfl
  | startUpComplete straps =>
    cases runs
    show (match s.life with | .starting k _ => s.completeStart k straps | _ => s).store.image = _
    split <;> rfl
  | _ =>
    cases (exec_record rfl s).symm.trans runs
    exact receive_image empty reads

/-! ### Steps, and the reset state -/

/-- Settles O1: a step takes the front of the queue. -/
theorem frontCommandRuns : Obligations.FrontCommandRuns := fun _ _ _ => rfl

/-- A step on an empty queue with nothing due lets time pass. -/
theorem step_of_nothing_due {s : State} (empty : s.pending = []) (none : s.dueEvent = none) : step s = .next s.tick := by
  unfold step
  rw [empty, none]

/-- A step on an empty queue takes the due event. -/
theorem step_of_due {s : State} {i : Instr} (empty : s.pending = []) (due : s.dueEvent = some i) : step s = exec i s := by
  unfold step
  rw [empty, due]

/-- Settles O2: with nothing due the step is a tick, and else the first due event. -/
theorem emptyQueueStep : Obligations.EmptyQueueStep := by
  intro s empty
  refine ⟨fun later => step_of_nothing_due empty ?_, fun due => ?_⟩
  · simpa [State.dueEvent, List.find?_eq_none] using fun t i h => later (t, i) h
  · obtain ⟨te, found⟩ : ∃ te, s.timedEvents.find? (fun te => te.1 ≤ s.now) = some te :=
      Option.isSome_iff_exists.1 (List.find?_isSome.2 (by simpa using due))
    refine ⟨te, List.mem_of_find?_eq_some found, by simpa using List.find?_some found, step_of_due empty ?_⟩
    simp [State.dueEvent, found]

/-- Settles O46: the three ways R193 takes a notice. -/
theorem noticeQueueTakesNotices : Obligations.NoticeQueueTakesNotices := by
  intro q n legal plain
  refine ⟨noticesLegal_queueNotice legal, fun room older => ?_, fun full older => ?_, fun q' t k subject overflow => ?_⟩
  · cases newest : q.getLast? with
    | none => rw [List.getLast?_eq_none_iff.1 newest]; rfl
    | some last => exact queueNotice_append n newest (older last (List.mem_of_getLast? newest)) room
  · cases newest : q.getLast? with
    | none => simp [List.getLast?_eq_none_iff.1 newest] at full
    | some last => exact queueNotice_full n newest (older last (List.mem_of_getLast? newest)) (by omega)
  · subst overflow
    rw [queueNotice_overflow n (List.getLast?_concat ..) rfl, List.dropLast_concat]
    rfl

end Sys2Proof.Machine
end
-- ==== Sys2Proof/Proofs/Starts.lean ====
section
/-! PROOFS. The starts, the end of start-up, and the reset state: what a start drops and keeps, what its end takes from the image, and
the invariants the reset state meets. -/

namespace Sys2Proof.Machine

/-! ### The beginning of a start -/

/-- The beginning of a start drops every block's work and keeps the memory and the levels of the inputs. -/
theorem beginStart_workDropped (s : State) (l : Life) : workDropped s (s.beginStart l) :=
  ⟨⟨rfl, rfl, rfl, rfl, rfl, rfl, rfl, rfl, rfl, rfl, rfl, rfl, rfl, rfl, rfl⟩, rfl, rfl, rfl, rfl, rfl, rfl, rfl, rfl, rfl⟩

/-- Settles O18: every start is `beginStart` with its own life. -/
theorem startsDropAllWork : Obligations.StartsDropAllWork := by
  refine fun s => ⟨fun powered => ?_, fun unpowered => ?_, fun released powered => ?_, fun runs ended replied => ?_,
    fun k asserted held => ?_⟩
  · exact ⟨s.beginStart .unpowered, by simp [exec, execPowerLoss, powered], beginStart_workDropped s _, rfl, rfl⟩
  · exact ⟨s.startAs .power, by simp [exec, execPowerStart, unpowered], beginStart_workDropped s _, rfl, rfl⟩
  · refine ⟨({ s with resetLine := true } : State).startAs .line, ?_, beginStart_workDropped { s with resetLine := true } _, rfl, rfl⟩
    simp [exec, execLineStart, released, powered]
  · have due : s.commandStartDue = true := by simp [State.commandStartDue, runs, ended, replied]
    exact ⟨s.startAs .command, by simp [exec, execCommandStart, due], beginStart_workDropped s _, rfl, rfl⟩
  · simp [exec, execResetRelease, asserted, held, Config.startUpTime]

/-! ### The end of start-up -/

theorem tget_map {α β : Type} (t : Table α) (f : Nat × α → β) (k : Nat) :
    tget (t.map (fun kv => (kv.1, f kv))) k = (tget t k).map (fun x => f (k, x)) := by
  induction t with
  | nil => rfl
  | cons hd t ih =>
    obtain ⟨j, x⟩ := hd
    simp only [List.map_cons, tget]
    split
    next same => subst same; rfl
    · exact ih

/-- A route taken from the image is IDLE, with no outcome and no mark (R48). -/
theorem freshRoute_idle (s : State) (d : RouteDef) :
    (s.freshRoute d).st = .idle ∧ (s.freshRoute d).outcome = none ∧ (s.freshRoute d).mark = none := by
  unfold State.freshRoute
  split <;> exact ⟨rfl, rfl, rfl⟩

theorem tget_freshRoutes (s : State) (rs : Table RouteDef) (p : Nat) :
    (tget (s.freshRoutes rs) p).map (fun r => (r.d, r.st, r.outcome, r.mark)) =
      (tget rs p).map (fun d => (d, RouteState.idle, none, none)) := by
  rw [State.freshRoutes, tget_map, Option.map_map]
  cases tget rs p with
  | none => rfl
  | some d =>
    obtain ⟨st, outcome, mark⟩ := freshRoute_idle s d
    simp [st, outcome, mark]

section
variable {straps : Straps} {reading : ElemDef → Reading} {x : ElemImage}

theorem startElement_counting : (startElement straps reading x).counting = none := by
  unfold startElement
  dsimp only
  split
  · rfl
  · split
    · split <;> rfl
    · split <;> rfl

theorem startElement_unfitted (out : isFitted straps x.d.bank = false) :
    (startElement straps reading x).pos = none ∧ (startElement straps reading x).st = .fault := by
  simp [startElement, out]

theorem startElement_sensed (fitted : isFitted straps x.d.bank = true) (sensed : isSensed straps x.d = true) :
    (startElement straps reading x).sense = some (reading x.d) ∧ (startElement straps reading x).pos = (reading x.d).asPos ∧
      (startElement straps reading x).st = if (reading x.d).asPos.isSome then .idle else .unknown := by
  cases read : reading x.d <;> simp [startElement, fitted, sensed, read, Reading.asPos]

theorem startElement_eml (fitted : isFitted straps x.d.bank = true) (unsensed : isSensed straps x.d = false) (eml : x.d.tech = .eml) :
    (startElement straps reading x).pos = none ∧ (startElement straps reading x).st = .unknown := by
  simp [startElement, fitted, unsensed, eml]

theorem startElement_emf (fitted : isFitted straps x.d.bank = true) (unsensed : isSensed straps x.d = false) (emf : x.d.tech = .emf) :
    (startElement straps reading x).pos = some 1 ∧ (startElement straps reading x).st = .idle := by
  simp [startElement, fitted, unsensed, emf]

theorem startElement_ss (fitted : isFitted straps x.d.bank = true) (ss : x.d.tech = .ss) :
    (startElement straps reading x).pos = some (if x.d.kind = .xfer then 1 else 0) ∧ (startElement straps reading x).st = .idle := by
  have unsensed : isSensed straps x.d = false := by simp [isSensed, ss]
  cases kind : x.d.kind <;> simp [startElement, fitted, unsensed, ss, kind]

end

/-- An RF state judged afresh follows its threshold (R97). -/
theorem judgeAllFresh_get (ds : Vector Detector 8) (ths : Vector HalfDb 8) (d : Fin 8) :
    (judgeAllFresh ds ths)[d].reading = ds[d].reading ∧ ((judgeAllFresh ds ths)[d].present = true ↔ ths[d] ≤ ds[d].reading) := by
  simp [judgeAllFresh, judgeRfFresh]

/-- Settles O19: the tables at the end of start-up are those `Image.read` gives, and each element starts by R24. -/
theorem startUpCompletes : Obligations.StartUpCompletes := by
  intro s k t0 straps starting
  have completes : exec (.startUpComplete straps) s = .next (s.completeStart k straps) := by
    simp [exec, execStartUpComplete, starting]
  refine ⟨_, completes, ⟨rfl, rfl, rfl, rfl, rfl, rfl, rfl, rfl, rfl, rfl, rfl, rfl⟩, ?_, fun bad => ?_, judgeAllFresh_get _ _,
    ⟨rfl, rfl⟩, fun tb good => ?_⟩
  · simp only [State.completeStart, goodBad, vWord]
  · simp [State.completeStart, State.freshRoutes, bad, Tables.empty]
  · have elems (e : Nat) : tget (s.completeStart k straps).elems e = (tget tb.elems e).map (startElement straps s.reading) := by
      simp only [State.completeStart, good, Option.getD_some]
      exact tget_map _ _ _
    refine ⟨by simp [State.completeStart, good], by simp [State.completeStart, good], by simp [State.completeStart, good],
      by simp [State.completeStart, good], fun p => ?_, fun e undef => by rw [elems, undef]; rfl, fun e x deft => ?_⟩
    · simp only [State.completeStart, good, Option.getD_some]
      exact tget_freshRoutes _ _ _
    · obtain ⟨d, losses, wear⟩ := startElement_image straps s.reading x
      refine ⟨startElement straps s.reading x, by rw [elems, deft]; rfl, d, losses, wear, startElement_counting,
        startElement_unfitted, startElement_sensed, startElement_eml, fun fitted emf unsensed => startElement_emf fitted unsensed emf,
        startElement_ss⟩

/-! ### The reset state -/

/-- At reset every detector reads low, and its RF state judged afresh is ABSENT. -/
theorem reset_dets_fresh : judgeAllFresh State.reset.guard.dets Settings.defaults.threshold = State.reset.guard.dets := by
  refine Vector.ext fun i hi => ?_
  simp [judgeAllFresh, State.reset, Settings.defaults, judgeRfFresh]

/-- At reset every input's filtered level is its raw level. -/
theorem reset_ins_level : State.reset.timers.ins.map (fun x => (⟨x.raw, x.raw, none⟩ : TrigIn)) = State.reset.timers.ins := by
  simp [State.reset]

/-- A power start begun over memory never written. -/
def blankStart : State := ({ State.reset with life := .unpowered, notices := [] } : State).startAs .power

/-- Settles O4: the supply returns, memory never written gives a bad image, and start-up completes with the straps of log entry 5. -/
theorem resetIsAPowerStart : Obligations.ResetIsAPowerStart := by
  have completed : blankStart.completeStart .power resetStraps = { State.reset with
      guard := { State.reset.guard with dets := judgeAllFresh State.reset.guard.dets Settings.defaults.threshold }
      timers := { State.reset.timers with
        ins := State.reset.timers.ins.map (fun x => (⟨x.raw, x.raw, none⟩ : TrigIn)) } } := rfl
  rw [reset_dets_fresh, reset_ins_level] at completed
  exact ⟨blankStart, rfl, rfl, congrArg Host.Outcome.next completed⟩

theorem reset_holdable : State.reset.holdable [] := ⟨List.nodup_nil, by decide, nofun⟩

/-- A state with no table, plan, route or run is sound when it holds nothing (R34). -/
theorem reset_heldSound : State.reset.heldSound := by
  have noRoute (p : Nat) (x : Route) : tget State.reset.routes p ≠ some x := nofun
  have noFlight (f : Flight) : State.reset.engine.flight ≠ some f := nofun
  have noHeld (p : Nat) : p ∉ State.reset.held := nofun
  constructor
  case together => exact reset_holdable
  case inPlace => exact fun p h => absurd h (noHeld p)
  case states => exact fun p => ⟨fun h => absurd h (noHeld p), nofun⟩
  case idle => exact fun p x h => absurd h (noRoute p x)
  case marked => exact fun p x _ h => absurd h (noRoute p x)
  case numbered => decide
  case linkedOnce => decide
  case flight => exact reset_holdable
  case waiting => exact fun p h => absurd h (noHeld p)
  case moving => exact fun f h => absurd h (noFlight f)
  case unarmed => exact fun _ => by decide
  case armed => exact nofun
  case defined => exact ⟨⟨nofun, nofun⟩, nofun, nofun⟩
  case derived => exact fun p x h => absurd h (noRoute p x)
  case stopped => exact fun stopped => absurd rfl stopped

/-- Settles O10: the reset state has no record, plan or list, default settings, and one notice. -/
theorem resetMeetsInvariants : Obligations.ResetMeetsInvariants := by
  refine ⟨⟨⟨?_, nofun, nofun⟩, nofun, nofun, nofun⟩, ⟨by decide, by decide, by decide, ?_⟩, fun _ => ⟨rfl, rfl, rfl, rfl, rfl⟩,
    ⟨lossesFit_rule.empty, nofun, nofun⟩, ⟨⟨nofun, nofun, nofun, defaults_legal⟩, nofun, nofun⟩, ⟨⟨nofun, nofun, nofun⟩, nofun, nofun, nofun⟩,
    reset_heldSound⟩
  · exact sorted_rule.empty
  · simp [noticesLegal, State.reset]

end Sys2Proof.Machine
end
-- ==== Sys2Proof/Proofs/Continuity.lean ====
section
/-! PROOFS. The continuity walk of R28: what a definition that passes visits, hop by hop. -/

namespace Sys2Proof.Machine

/-- One hop joins node `a` to node `b` by the connection `c`: its element, in its position, joins the terminal wired to `a` to one
wired to `b`. -/
def State.joins (s : State) (h : Nat × Nat) (c : HopConn) (a b : Nat) : Prop :=
  ∃ (x : Element) (u : Nat), tget s.elems h.1 = some x ∧ x.d.terms[c.entry]? = some (some a) ∧
    partner x.d.kind h.2 c.entry = some (u, c.conn) ∧ x.d.terms[u]? = some (some b)

theorem terms_of_terminalAt {d : ElemDef} {n t : Nat} (h : terminalAt d n = some t) : d.terms[t]? = some (some n) := by
  obtain ⟨lt, wired, -⟩ := List.findIdx?_eq_some_iff_getElem.mp h
  rw [List.getElem?_eq_getElem lt]
  exact congrArg some (of_decide_eq_true wired)

theorem terms_of_getD {l : List (Option Nat)} {u n : Nat} (h : l.getD u none = some n) : l[u]? = some (some n) := by
  cases wired : l[u]? with
  | none => simp [List.getD_eq_getElem?_getD, wired] at h
  | some o => simpa [List.getD_eq_getElem?_getD, wired] using h

/-- A hop that carries on joins the current node to the one it leads to. -/
theorem joins_of_hopStep {s : State} {cur n : Nat} {h : Nat × Nat} {c : HopConn} (carries : s.hopStep cur h = some (n, c)) :
    s.joins h c cur n := by
  unfold State.hopStep at carries
  split at carries
  · cases carries
  next x found =>
    split at carries
    · cases carries
    next t wired =>
      split at carries
      · cases carries
      next u k across =>
        split at carries
        · cases carries
        next m leads =>
          cases carries
          exact ⟨x, u, found, terms_of_terminalAt wired, across, terms_of_getD leads⟩

/-- The nodes and connections of a walk from a current node over a list of hops to the node `dst`. -/
inductive Walked (s : State) (dst : Nat) : Nat → List (Nat × Nat) → List Nat → List HopConn → Prop
  | done {cur : Nat} : Walked s dst cur [] [] []
  | hop {cur n : Nat} {h : Nat × Nat} {c : HopConn} {rest : List (Nat × Nat)} {ns : List Nat} {cs : List HopConn}
      (joined : s.joins h c cur n) (node : if rest = [] then n = dst else s.isInner n = true) (on : Walked s dst n rest ns cs) :
      Walked s dst cur (h :: rest) (n :: ns) (c :: cs)

/-- A walk that passes has walked its hops and visits no node twice. -/
theorem walked_of_walk {s : State} {dst : Nat} (hops : List (Nat × Nat)) :
    ∀ {i cur : Nat} {visited ns : List Nat} {cs : List HopConn}, s.walk dst i cur visited hops = .ok (ns, cs) → visited.Nodup →
      ∃ new, ns = visited ++ new ∧ ns.Nodup ∧ Walked s dst cur hops new cs := by
  induction hops with
  | nil =>
    intro i cur visited ns cs passes once
    cases passes
    exact ⟨[], by simp, once, .done⟩
  | cons h rest ih =>
    intro i cur visited ns cs passes once
    unfold State.walk at passes
    split at passes
    · cases passes
    next n c carries =>
      split at passes
      · cases passes
      next fresh =>
        by_cases node : if rest = [] then n = dst else s.isInner n = true
        · rw [if_pos node] at passes
          split at passes
          next ms ds on =>
            cases passes
            have apart : (visited ++ [n]).Nodup := by
              simpa using once.concat (a := n) (by simpa using fresh)
            obtain ⟨new, rfl, nodup, walked⟩ := ih on apart
            exact ⟨n :: new, by simp, nodup, .hop (joins_of_hopStep carries) node walked⟩
          · cases passes
        · rw [if_neg node] at passes
          cases passes

section
variable {s : State} {dst cur : Nat} {hops : List (Nat × Nat)} {new : List Nat} {cs : List HopConn}
  (walked : Walked s dst cur hops new cs)
include walked

theorem Walked.lengths : new.length = hops.length ∧ cs.length = hops.length := by
  induction walked with
  | done => exact ⟨rfl, rfl⟩
  | hop _ _ _ ih => simp [ih]

theorem Walked.last (some_hop : hops ≠ []) : (cur :: new).getLast? = some dst := by
  induction walked with
  | done => exact absurd rfl some_hop
  | @hop cur n h c rest ns cs joined node on ih =>
    rw [List.getLast?_cons_cons]
    by_cases ends : rest = []
    · subst ends
      cases on
      simpa using node
    · exact ih ends

theorem Walked.joins_at {i : Nat} {h : Nat × Nat} {c : HopConn} (hop : hops[i]? = some h) (conn : cs[i]? = some c) :
    ∃ a b, (cur :: new)[i]? = some a ∧ (cur :: new)[i + 1]? = some b ∧ s.joins h c a b ∧
      (i + 1 < hops.length → s.isInner b = true) := by
  induction walked generalizing i with
  | done => cases hop
  | @hop cur n h' c' rest ns cs joined node on ih =>
    cases i with
    | zero =>
      cases hop; cases conn
      refine ⟨cur, n, rfl, rfl, joined, fun more => ?_⟩
      rwa [if_neg (by rintro rfl; simp at more)] at node
    | succ i =>
      obtain ⟨a, b, at_a, at_b, joins, inner⟩ := ih hop conn
      exact ⟨a, b, at_a, at_b, joins, fun more => inner (by simpa using more)⟩

end

/-- Settles O24, by induction on the walk: a walk that passes has walked its hops. -/
theorem continuityJoinsTheEnds : Obligations.ContinuityJoinsTheEnds := by
  unfold Obligations.ContinuityJoinsTheEnds
  intro s d ns cs passes some_hop
  obtain ⟨new, rfl, nodup, walked⟩ := walked_of_walk d.hops passes (by simp)
  obtain ⟨nodes, conns⟩ := walked.lengths
  refine ⟨by simp [nodes], rfl, walked.last some_hop, nodup, conns, fun i h c hop conn => ?_⟩
  obtain ⟨a, b, at_a, at_b, ⟨x, u, found, entry, across, exit⟩, inner⟩ := walked.joins_at hop conn
  exact ⟨x, a, b, u, at_a, at_b, found, entry, across, exit, inner⟩

end Sys2Proof.Machine
end
-- ==== Sys2Proof/Proofs/FabricCommands.lean ====
section
/-! PROOFS. The commands of chapter 1 (R2 to R4, R11 to R13, R22, R23): what an accepted NODE, ELEM and POSN leaves, and what NODE?
and ELEM? answer. First what serves the commands of every chapter: how arguments are read, and a record taken alone. -/

namespace Sys2Proof.Machine

/-! ### Reading arguments -/

@[simp] theorem asNum_aNum (n : Nat) : asNum (aNum n) = some n := rfl
@[simp] theorem asWord_aWord (w : Kw) : asWord (aWord w) = some w := rfl
@[simp] theorem fin8_val (d : Fin 8) : fin8 d.val = some d := dif_pos d.isLt
@[simp] theorem fin4_val (d : Fin 4) : fin4 d.val = some d := dif_pos d.isLt

/-- Arguments that are read one by one are read together. -/
theorem asAll_map {α β : Type} {f : Arg → Option α} (put : β → Arg) (get : β → α) (reads : ∀ b, f (put b) = some (get b)) (l : List β) :
    asAll f (l.map put) = some (l.map get) := by
  induction l with
  | nil => rfl
  | cons b l ih => simp [asAll, reads, ih]

/-! ### A record taken alone -/

section
variable {s u : State} {c : Instr} {r : Reply} (alone : s.takesAlone) (via : c.via = .addressed) (record : c.isRecord = true)
include alone via record

/-- A command that leaves nothing due: its own effect and its reply. -/
theorem exec_leaves (answer : answerOf c s = (r, u)) (calm : u.calm) : exec c s = .next (u.reply .addressed r) :=
  exec_of_answer alone via (exec_record record s) calm answer

/-- A command that leaves the engine, the guard and the sequencer as they were. -/
theorem exec_writes (answer : answerOf c s = (r, u)) (engine : u.engine = s.engine := by rfl) (guard : u.guard = s.guard := by rfl)
    (seq : u.seq = s.seq := by rfl) : exec c s = .next (u.reply .addressed r) :=
  exec_leaves alone via record answer (instant_none_congr engine guard seq alone.2)

/-- A command that answers only. -/
theorem exec_answers (answer : answerOf c s = (r, s)) : exec c s = .next (s.reply .addressed r) :=
  exec_leaves alone via record answer alone.2

end

/-- A command that reads one numbered record. -/
theorem exec_readNumbered {α : Type} {k : IdKind} {inRange : Nat → Bool} {n : Nat} {t : Table α} {s : State} {c : Instr}
    {vals : Nat → α → List Val} (alone : s.takesAlone) (via : c.via = .addressed) (record : c.isRecord = true)
    (reads : answerOf c s = oneId k inRange [aId k n] s (fun m => defined t m s (fun x => okWith (vals m x) s))) :
    (inRange n = false → exec c s = .next (s.reply .addressed (.nak .range []))) ∧
      (inRange n = true → tget t n = none → exec c s = .next (s.reply .addressed (.nak .noId []))) ∧
      ∀ x, inRange n = true → tget t n = some x → exec c s = .next (s.reply .addressed (.ok (vals n x))) := by
  have answers {r : Reply} := exec_answers (r := r) alone via record
  refine ⟨fun out => answers ?_, fun inside undef => answers ?_, fun x inside deft => answers ?_⟩
  · exact reads.trans (onRecord_outside out)
  · exact reads.trans (onRecord_undefined inside undef)
  · exact reads.trans (onRecord_defined inside deft)

/-! ### Searching a table -/

theorem tfind_eq_none {α : Type} {t : Table α} {p : Nat → α → Bool} (h : ∀ kv ∈ t, p kv.1 kv.2 = false) : tfind t p = none := by
  unfold tfind
  rw [List.find?_eq_none.2 fun kv mem => by simp [h kv mem]]
  rfl

/-! ### NODE -/

section
variable {s : State} {n : Nat} {kw : Kw} {kind : NodeKind}

theorem nodeRefusal_undefined {det : Option (Fin 8)} (undef : tget s.nodes n = none) : s.nodeRefusal n kind det = none := by
  simp [State.nodeRefusal, undef]

/-- A defined node keeps its kind, no PENDING or HELD route passes it, and its guard mode watches no detector. -/
theorem nodeRefusal_same {x : Node} (deft : tget s.nodes n = some x) (noSense : x.guard ≠ some .sense) (noBoth : x.guard ≠ some .both)
    (free : ∀ kv ∈ s.routes, kv.2.st = .idle ∨ kv.2.nodes.contains n = false) : s.nodeRefusal n x.kind none = none := by
  have none_live : s.liveRouteAt n = none := tfind_eq_none fun kv mem => by
    rcases free kv mem with idle | off
    · simp [idle]
    · simp only [off, Bool.and_false]
  simp [State.nodeRefusal, deft, none_live, noSense, noBoth]

theorem cmdNode_plain (inside : inNode n = true) (known : nodeKindOf kw = some kind) (accepted : s.nodeRefusal n kind none = none) :
    cmdNode [aId .n n, aWord kw] s = okay { s with nodes := tset s.nodes n (s.nodeRecord n kind none) } := by
  simp [cmdNode, parseNode, inside, known, accepted]

theorem cmdNode_bound {d : Fin 8} (inside : inNode n = true) (known : nodeKindOf kw = some .instr)
    (free : ∀ kv ∈ s.nodes, kv.2.det ≠ some d) (accepted : s.nodeRefusal n .instr (some d) = none) :
    cmdNode [aId .n n, aWord kw, aId .d d.val] s = okay { s with nodes := tset s.nodes n (s.nodeRecord n .instr (some d)) } := by
  have unbound : s.boundElsewhere n (some d) = none := by
    unfold State.boundElsewhere
    exact tfind_eq_none fun kv mem => by simp [free kv mem]
  simp [cmdNode, parseNode, inside, known, unbound, accepted]

end

/-- Settles O20: the two accepted forms of NODE, each run through the interpreter. -/
theorem nodeDefines : Obligations.NodeDefines := by
  intro s n kw kind alone inside known
  refine ⟨fun undef => ?_, fun d instr undef free => ?_, fun x deft same noSense noBoth free => ?_⟩
  · have record : s.nodeRecord n kind none =
        ⟨kind, none, if kind = .instr then some .open_ else none, if kind = .inner then s.zeroLosses else []⟩ := by
      simp [State.nodeRecord, undef]
    exact exec_writes alone rfl rfl ((cmdNode_plain inside known (nodeRefusal_undefined undef)).trans (by rw [record]; rfl))
  · subst instr
    have record : s.nodeRecord n .instr (some d) = ⟨.instr, some d, some .open_, []⟩ := by simp [State.nodeRecord, undef]
    exact exec_writes alone rfl rfl ((cmdNode_bound inside known free (nodeRefusal_undefined undef)).trans (by rw [record]; rfl))
  · subst same
    have record : s.nodeRecord n x.kind none = { x with det := none } := by simp [State.nodeRecord, deft]
    exact exec_writes alone rfl rfl
      ((cmdNode_plain inside known (nodeRefusal_same deft noSense noBoth free)).trans (by rw [record]; rfl))

/-! ### ELEM -/

section
variable {s : State} {e : Nat} {kw tw : Kw} {d : ElemDef}

theorem asTerminal_aTerminal (t : Option Nat) : asTerminal (aTerminal t) = some t := by
  cases t <;> rfl

/-- The terminals and the safe position of a definition are read back. -/
theorem parseTerminals_elemArgs (legal : d.legal) :
    parseTerminals d.kind.terminals (d.terms.map aTerminal ++ [aNum d.safe]) = some (d.terms, some d.safe) := by
  have length : (d.terms.map aTerminal).length = d.kind.terminals := by simpa using legal.1
  have read : asAll asTerminal (d.terms.map aTerminal) = some d.terms := by
    simpa using asAll_map aTerminal id asTerminal_aTerminal d.terms
  simp [parseTerminals, ← length, read]

theorem parseElem_elemArgs (legal : d.legal) (kind : elemKindOf kw = some d.kind) :
    parseElem (elemArgs e kw tw d) = some (e, some d.kind, tw, d.bank.val, d.slot.val, d.terms, some d.safe) := by
  simp [parseElem, elemArgs, kind, parseTerminals_elemArgs legal]

/-- A definition that meets conditions 2 and 3 of R11 is read as it is. -/
theorem elemDef_legal (inside : inElem e = true) (legal : d.legal) (tech : techOfKw tw = some d.tech)
    (fitted : isFitted s.straps d.bank = true) (wired : ∀ n, some n ∈ d.terms → inNode n = true) :
    s.elemDef e (some d.kind) tw d.bank.val d.slot.val d.terms (some d.safe) = some d := by
  obtain ⟨-, safe, latching⟩ := legal
  have emf : (decide (d.tech = .emf) && decide (d.kind ≠ .sp2)) = false := by
    by_cases h : d.tech = .emf
    · simp [h, latching h]
    · simp [h]
  have passes : (inElem e && d.terms.all (fun x => match x with
        | some n => inNode n
        | none => true) && !(decide (d.tech = .emf) && decide (d.kind ≠ .sp2)) && isFitted s.straps d.bank &&
      legalPos d.kind d.tech d.safe) = true := by
    simp only [inside, emf, fitted, safe, Bool.and_true, Bool.true_and, Bool.not_false, List.all_eq_true]
    intro t mem
    cases t with
    | none => rfl
    | some n => exact wired n mem
  simp only [State.elemDef, tech, fin8_val, Option.getD_some]
  exact if_pos passes

theorem cmdElem_accepted (inside : inElem e = true) (legal : d.legal) (kind : elemKindOf kw = some d.kind)
    (tech : techOfKw tw = some d.tech) (fitted : isFitted s.straps d.bank = true)
    (wired : ∀ n, some n ∈ d.terms → inNode n = true) (accepted : s.elemRefusal e d = none) :
    cmdElem (elemArgs e kw tw d) s =
      okay { s.elemDrive d (tget s.elems e) with elems := tset s.elems e (s.elemRecord d (tget s.elems e)) }.markWear := by
  simp [cmdElem, parseElem_elemArgs legal kind, elemDef_legal inside legal tech fitted wired, accepted]

end

/-- The drive of a slot makes nothing due. -/
theorem setDrive_calm {s : State} (d : ElemDef) (v : SlotDrive) (calm : s.calm) : (s.setDrive d v).calm :=
  calm_congr (s := s) rfl rfl rfl rfl calm

/-- Elements and wear marks make nothing due. -/
theorem redefined_calm {s : State} (elems : Table Element) (calm : s.calm) : ({ s with elems := elems } : State).markWear.calm :=
  calm_congr (s := s) rfl rfl rfl rfl calm

/-- Settles O21: an accepted ELEM by what its slot's drive was, for a first definition and a redefinition. -/
theorem elemDefines : Obligations.ElemDefines := by
  intro s e kw tw d alone inside legal kind tech fitted wired accepted
  have answer := cmdElem_accepted (e := e) inside legal kind tech fitted wired accepted
  refine ⟨fun undef => ?_, fun x deft => ?_⟩
  · rw [undef] at answer
    exact exec_leaves alone rfl rfl answer (redefined_calm _ (setDrive_calm d .off alone.2))
  · rw [deft] at answer
    dsimp only
    by_cases keeps : x.d.bank = d.bank ∧ x.d.slot = d.slot ∧ x.d.tech = d.tech
    · simp only [State.elemDrive, if_pos keeps] at answer
      exact (if_pos keeps).symm ▸ exec_leaves alone rfl rfl answer (redefined_calm _ alone.2)
    · simp only [State.elemDrive, if_neg keeps] at answer
      rw [if_neg keeps]
      exact exec_leaves alone rfl rfl answer (redefined_calm _ (setDrive_calm d .off (setDrive_calm x.d .off alone.2)))

/-! ### POSN -/

/-- With a plan in flight, what is placed behind it is not due. -/
theorem placePlan_calm {s : State} (p : Plan) (flying : s.engine.flight.isSome = true) (calm : s.calm) : (s.placePlan p).calm := by
  obtain ⟨f, flight⟩ := Option.isSome_iff_exists.1 flying
  exact calm_of_flight flight flight rfl calm

/-- Marks make nothing due. -/
theorem markRoutes_calm {s : State} (id : Nat) (ms : List (Nat × MarkKind)) (calm : s.calm) : (s.markRoutes id ms).calm :=
  instant_none_congr (markRoutes_engine s id ms) (markRoutes_work s id ms).guard (markRoutes_work s id ms).seq calm

theorem legalPos_le {k : ElemKind} {t : Tech} {p : Nat} (legal : legalPos k t p = true) : p ≤ 8 := by
  have throws : k.throws ≤ 8 := by cases k <;> decide
  unfold legalPos at legal
  split at legal <;> have bound := of_decide_eq_true legal <;> omega

section
variable {s : State} {e p : Nat} {x : Element} (inside : inElem e = true) (deft : tget s.elems e = some x)
  (legal : legalPos x.d.kind x.d.tech p = true) (fitted : isFitted s.straps x.d.bank = true) (idle : s.seq = none)
include inside deft legal fitted idle

/-- A POSN that passes the conditions before CLAIMED. -/
theorem cmdPosn_passes {args : List Arg} {force : Bool} {k : Option Nat} {prof : Profile}
    (read : parsePosn args = some (e, p, force, k)) (profile : posnProfile k = some prof) :
    cmdPosn args s =
      match (if force then none else (s.projectionNames e).head?) with
      | some r => nakWith .claimed (vRoute r) s
      | none => if s.queueFull then nak .qfull s else okay (s.placePosn e p force prof) := by
  have high : ¬ 8 < p := Nat.not_lt.2 (legalPos_le legal)
  simp only [cmdPosn, read, profile, inside, high, defined, deft, legal, fitted, seqIdle_iff.2 idle] <;> rfl

end

/-- Settles O22: placement behind a plan in flight, and the refusal without FORCE. -/
theorem posnPlacesAPlan : Obligations.PosnPlacesAPlan := by
  intro s e p x alone inside deft legal fitted idle flying room
  have passes {args : List Arg} {force : Bool} {k : Option Nat} {prof : Profile} :=
    cmdPosn_passes (args := args) (force := force) (k := k) (prof := prof) inside deft legal fitted idle
  have notFull : s.queueFull = false := by simpa [State.queueFull] using room
  refine ⟨fun unclaimed => ?_, fun r rs claimed => ?_, fun k prof profile => ?_⟩
  · refine exec_leaves alone rfl rfl ((passes (args := [aId .e e, aNum p]) rfl rfl).trans ?_) (placePlan_calm _ flying alone.2)
    rw [unclaimed, notFull]
    rfl
  · refine exec_answers alone rfl rfl ((passes (args := [aId .e e, aNum p]) rfl rfl).trans ?_)
    rw [claimed]
    rfl
  · refine exec_leaves alone rfl rfl ((passes (args := [aId .e e, aNum p, aWord .force, aId .p k]) rfl profile).trans ?_)
      (placePlan_calm _ ?_ (markRoutes_calm _ _ alone.2))
    · rw [notFull]
      rfl
    · rw [markRoutes_engine]
      exact flying

/-- Settles O23: each query by where its number stands. -/
theorem fabricQueriesAnswer : Obligations.FabricQueriesAnswer := by
  intro s n alone
  obtain ⟨nodeOut, nodeUndef, nodeRead⟩ := exec_readNumbered (c := .nodeQuery [aId .n n]) alone rfl rfl
    (by unfold answerOf cmdNodeQuery; rfl)
  obtain ⟨elemOut, elemUndef, elemRead⟩ := exec_readNumbered (c := .elemQuery [aId .e n]) alone rfl rfl
    (by unfold answerOf cmdElemQuery; rfl)
  exact ⟨fun x => nodeRead x, fun x => elemRead x, nodeUndef, elemUndef, nodeOut, elemOut⟩

end Sys2Proof.Machine
end
-- ==== Sys2Proof/Proofs/SettingsCommands.lean ====
section
/-! PROOFS. The commands that store settings and the queries that read them: drive settings (R70 to R72), guard settings (R83 to R86,
R90), trigger lines (R158, R163), the pace timer (R169, R170), steps and lists (R125, R126, R130). -/

namespace Sys2Proof.Machine

/-- A time whose range begins at 0 is only rounded up and cut off at the end of the range. -/
theorem storedTime_zero (hi t : Nat) : storedTime 0 hi t = min hi (roundUp10 t) := Nat.zero_max _

/-! ### Drive settings -/

theorem cmdSetl_accepted {s : State} {kw : Kw} {k t : Nat} {tech : Tech} {prof : Profile} (known : techOfKw kw = some tech)
    (profile : profileOf k = some prof) :
    cmdSetl [aWord kw, aId .p k, aNum t] s = okWith [vNum (storedTime 0 200000 t)]
      { s with settings := { s.settings with settle := s.settings.settle.put tech prof (storedTime 0 200000 t) } } := by
  simp [cmdSetl, asTech, known, profile]

theorem cmdBank_accepted {s : State} {b : Fin 8} {k : Nat} (low : 1 ≤ k) (high : k ≤ 8) :
    cmdBank [aId .b b.val, aNum k] s = okay { s with settings := { s.settings with waveSize := s.settings.waveSize.set b k } } := by
  simp [cmdBank, low, high]

theorem cmdBankQuery_bank {s : State} {b : Fin 8} :
    cmdBankQuery [aId .b b.val] s = okWith [vNum s.settings.waveSize[b], vNum (s.effSize b)] s := by
  simp [cmdBankQuery]

/-- Settles O31: each setting is written and echoed, and its query reads it back. -/
theorem driveSettingsAreStored : Obligations.DriveSettingsAreStored := by
  intro s t alone
  refine ⟨⟨?_, ?_⟩, fun kw k tech prof known profile => ?_, fun b low high => ?_, ?_, ?_, fun b => ?_⟩
  · exact exec_writes alone rfl rfl rfl
  · exact exec_writes alone rfl rfl rfl
  · exact exec_writes alone rfl rfl (cmdSetl_accepted known profile)
  · exact exec_writes alone rfl rfl (cmdBank_accepted low high)
  · exact exec_answers alone rfl rfl rfl
  · exact exec_answers alone rfl rfl rfl
  · exact exec_answers alone rfl rfl cmdBankQuery_bank

/-! ### Guard settings -/

section
variable {s : State} {n : Nat} {kw : Kw} {mode : GuardMode} {x : Node} (inside : inNode n = true)
  (known : guardModeOf kw = some mode) (deft : tget s.nodes n = some x)
include inside known deft

theorem cmdGuard_passes :
    cmdGuard [aId .n n, aWord kw] s =
      if x.kind ≠ .instr then nak .state s
      else if mode.needsSense ∧ x.det = none then nak .state s
      else okay { s with nodes := tset s.nodes n { x with guard := some mode } } := by
  simp only [cmdGuard, asId_aId, asWord_aWord, inside, known, defined, deft]

end

theorem needsSense_iff {m : GuardMode} : m.needsSense = true ↔ m = .sense ∨ m = .both := by
  cases m <;> simp [GuardMode.needsSense]

/-- With no plan in flight a detector that becomes PRESENT is no hot event. -/
theorem judgeDetector_noFlight {s : State} (d : Fin 8) (flight : s.engine.flight = none) :
    s.judgeDetector d =
      { s with guard := { s.guard with dets := s.guard.dets.set d { s.guard.dets[d] with
          present := judgeRf s.guard.dets[d].present s.guard.dets[d].reading s.settings.threshold[d] } } } := by
  unfold State.judgeDetector
  dsimp only
  split
  · rw [State.rfAppeared, flight]
  · rfl

/-- A PRESENT detector stays so down to 1 dB below the threshold. -/
theorem judgeRf_eq (was : Bool) (reading threshold : HalfDb) :
    judgeRf was reading threshold = if was then decide (threshold - 2 ≤ reading) else decide (threshold ≤ reading) := by
  unfold judgeRf
  rw [← decide_not, decide_eq_decide.2 Int.not_lt]

theorem cmdRfth_detector {s : State} {d : Fin 8} {a : Arg} {t : Int} (read : asHalves a = some t) :
    cmdRfth [aId .d d.val, a] s = okWith [[.half (max (-80) (min 60 t))]]
      ({ s with settings := { s.settings with threshold := s.settings.threshold.set d (max (-80) (min 60 t)) } }.judgeDetector d) := by
  simp [cmdRfth, read]

theorem cmdSenseQuery_detector {s : State} {d : Fin 8} :
    cmdSenseQuery [aId .d d.val] s = okWith [[.half s.guard.dets[d].reading],
      vWord (if s.guard.dets[d].present then "PRESENT" else "ABSENT"), [.half s.settings.threshold[d]],
      vOpt vNode (tfind s.nodes (fun _ x => x.det = some d))] s := by
  simp [cmdSenseQuery]

/-- With no plan in flight, the guard's inputs make nothing due. -/
theorem calm_dets {s : State} {dets : Vector Detector 8} {new : Settings} (flight : s.engine.flight = none) (calm : s.calm) :
    ({ s with settings := new, guard := { s.guard with dets := dets } } : State).calm := by
  obtain ⟨waiting, submit, carry⟩ := calm_empty calm flight
  exact calm_of_empty flight waiting submit carry

/-- Settles O33: the settings are written, and a new threshold judges its detector. -/
theorem guardSettingsAreStored : Obligations.GuardSettingsAreStored := by
  intro s alone
  refine ⟨fun n kw mode x inside known deft instr bound => ?_, fun n kw mode x inside known deft bad => ?_,
    fun d a t read flight => ?_, fun t => ?_, ?_, fun d => ?_⟩
  · have watched : ¬ (mode.needsSense = true ∧ x.det = none) := fun ⟨needs, unbound⟩ => bound (needsSense_iff.1 needs) unbound
    exact exec_writes alone rfl rfl ((cmdGuard_passes inside known deft).trans
      ((if_neg (not_not.2 instr)).trans (if_neg watched)))
  · refine exec_answers alone rfl rfl ((cmdGuard_passes inside known deft).trans ?_)
    rw [← needsSense_iff] at bad
    by_cases other : x.kind ≠ .instr
    · exact if_pos other
    · exact (if_neg other).trans (if_pos (bad.resolve_left other))
  · have judged := judgeDetector_noFlight (s := { s with settings := { s.settings with
      threshold := s.settings.threshold.set d (max (-80) (min 60 t)) } }) d flight
    dsimp only at judged
    rw [show (s.settings.threshold.set d (max (-80) (min 60 t)))[d] = max (-80) (min 60 t) by simp, judgeRf_eq] at judged
    exact exec_leaves alone rfl rfl ((cmdRfth_detector read).trans (by rw [judged]; rfl)) (calm_dets flight alone.2)
  · exact exec_writes alone rfl rfl rfl
  · exact exec_answers alone rfl rfl rfl
  · exact exec_answers alone rfl rfl cmdSenseQuery_detector

/-! ### Trigger lines -/

section
variable {s : State}

theorem cmdTrin_passes {i : Fin 4} {ew fw : Kw} {rise : Bool} {f : Filter} (edge : edgeOf ew = some rise) (filter : filterOf fw = some f) :
    cmdTrin [aId .ti i.val, aWord ew, aWord fw] s = if !s.seqIdle then nak .seqActive s else okay (s.setInput i ⟨rise, f⟩) := by
  simp [cmdTrin, edge, filter]

theorem cmdTrinQuery_input {i : Fin 4} :
    cmdTrinQuery [aId .ti i.val] s = okWith [vWord (if s.settings.inputs[i].rise then "RISE" else "FALL"),
      vWord (filterText s.settings.inputs[i].filter), vWord (highLow s.timers.ins[i].level)] s := by
  simp [cmdTrinQuery]

theorem cmdTrout_output {o : Fin 4} {w : Nat} :
    cmdTrout [aId .to o.val, aNum w] s = okWith [vNum (storedTime 0 655350 w)]
      { s with settings := { s.settings with widths := s.settings.widths.set o (storedTime 0 655350 w) } } := by
  simp [cmdTrout]

theorem cmdTroutQuery_output {o : Fin 4} :
    cmdTroutQuery [aId .to o.val] s =
      okWith [vNum s.settings.widths[o], vWord (highLow s.timers.outs[o].high), s.vDrive s.timers.outs[o]] s := by
  simp [cmdTroutQuery]

theorem highLow_high (d : OutDrive) : highLow d.high = if d = .off then "LOW" else "HIGH" := by
  cases d <;> rfl

end

/-- Settles O43: the settings are written, and their queries read them. -/
theorem triggerSettingsAreStored : Obligations.TriggerSettingsAreStored := by
  intro s alone
  refine ⟨fun i ew fw rise f edge filter idle => ?_, fun i ew fw rise f edge filter armed => ?_, fun i => ?_, fun o w => ?_,
    fun o => ?_⟩
  · exact exec_writes alone rfl rfl ((cmdTrin_passes edge filter).trans (unlessIdle_of_idle idle))
  · exact exec_answers alone rfl rfl ((cmdTrin_passes edge filter).trans (unlessIdle_of_armed armed))
  · exact exec_answers alone rfl rfl cmdTrinQuery_input
  · have answer := cmdTrout_output (s := s) (o := o) (w := w)
    rw [storedTime_zero] at answer
    exact exec_writes alone rfl rfl answer
  · have answer := cmdTroutQuery_output (s := s) (o := o)
    rw [highLow_high] at answer
    exact exec_answers alone rfl rfl answer

/-! ### The pace timer -/

section
variable {s : State} {args : List Arg} {m : Option PaceMode} {c : Nat} {g : Option Nat} {p : PaceSetting}

theorem cmdPace_accepted (read : parsePace args = some (m, c, g)) (legal : paceInRange m c g = some p) :
    cmdPace args s = okay (s.setPace p) := by
  simp only [cmdPace, read, legal]

theorem setPace_idle (idle : s.seq = none) : s.setPace p = { s with settings := { s.settings with pace := p } } :=
  if_pos (seqIdle_iff.2 idle)

theorem setPace_armed (armed : s.seq ≠ none) :
    s.setPace p = if s.settings.pace.mode = p.mode ∧ s.settings.pace.gate = p.gate then
        { s with settings := { s.settings with pace := p }, timers := { s.timers with pace := { s.timers.pace with pend := true } } }
      else { s with settings := { s.settings with pace := p } }.startPace :=
  if_neg (mt seqIdle_iff.1 armed)

end

/-- Settles O44: PACE while IDLE, with the same mode and gate, and with others. -/
theorem paceIsStoredAndRestarted : Obligations.PaceIsStoredAndRestarted := by
  intro s args m c g p alone read legal
  have answer := cmdPace_accepted (s := s) read legal
  refine ⟨fun idle => ?_, fun armed mode gate => ?_, fun armed other => ?_, ?_⟩
  · exact exec_writes alone rfl rfl (answer.trans (by rw [setPace_idle idle]; rfl))
  · exact exec_writes alone rfl rfl (answer.trans (by rw [setPace_armed armed, if_pos ⟨mode, gate⟩]; rfl))
  · have changed : ¬ (s.settings.pace.mode = p.mode ∧ s.settings.pace.gate = p.gate) := fun ⟨mode, gate⟩ =>
      other.elim (· mode) (· gate)
    exact exec_writes alone rfl rfl (answer.trans (by rw [setPace_armed armed, if_neg changed]; rfl))
  · exact exec_answers alone rfl rfl rfl

/-! ### Steps and lists -/

@[simp] theorem allSome_map_some {α : Type} (l : List α) : allSome (l.map some) = some l := by
  induction l with
  | nil => rfl
  | cons a l ih => simp [allSome, ih]

/-- A list that maps onto a list of at least one value has an element. -/
theorem cons_of_asAll {α : Type} {f : Arg → Option α} {args : List Arg} {xs : List α} (read : asAll f args = some xs) (some_value : xs ≠ []) :
    ∃ a t, args = a :: t := by
  cases args with
  | nil => cases read; exact absurd rfl some_value
  | cons a t => exact ⟨a, t, rfl⟩

section
variable {s : State} {n dA dB : Nat} {srcA selA ovrA actA repA : Arg} {opsA : List Arg} {w : Kw} {src : Source} {sel : DwellSel}
  {ovr : Option Profile} {act : Option OutAction} {rep : Bool} {ops : List StepOp}

theorem parseStep_accepted (source : asSource srcA = some (some src)) (word : asWord selA = some w) (select : dwellSelOf w = some sel)
    (override : asOverride ovrA = some (some ovr)) (action : asAction actA = some (some act)) (report : asReport repA = some rep)
    (read : asAll asOp opsA = some (ops.map some)) (some_op : ops ≠ []) (few : ops.length ≤ 4) :
    parseStep (aId .s n :: srcA :: selA :: aNum dA :: aNum dB :: ovrA :: actA :: repA :: opsA) =
      some (n, some ⟨ops, src, storedTime 0 10000000 dA, storedTime 0 10000000 dB, sel, ovr, act, rep⟩) := by
  obtain ⟨a, t, rfl⟩ := cons_of_asAll read (by simpa using some_op)
  simp [parseStep, stepRecord, source, word, select, override, action, report, read, few]

theorem stepRefusal_accepted {st : StepRec} (idle : s.seq = none) (deft : ∀ o ∈ st.ops, (tget s.routes o.route).isSome = true)
    (tested : opsTest s.conflicts st.ops = none) : s.stepRefusal st = none := by
  have all : st.ops.find? (fun o => (tget s.routes o.route).isNone) = none := by
    rw [List.find?_eq_none]
    exact fun o mem => by simp [Option.isNone_eq_false_iff.2 (deft o mem)]
  simp [State.stepRefusal, seqIdle_iff.2 idle, all, tested]

end

theorem asTriggerPolicy_word (latch : Bool) : asTriggerPolicy (aWord (if latch then .latch else .drop)) = some (some latch) := by
  cases latch <;> rfl

theorem asLatePolicy_word (force : Bool) : asLatePolicy (aWord (if force then .force else .halt)) = some (some force) := by
  cases force <;> rfl

theorem listRecord_accepted {first last passes pattern we wl : Nat} {latch force : Bool} {freq : Option Nat} (order : first ≤ last)
    (inside : last < 256) (fewPasses : passes ≤ 65535) (shortPattern : pattern ≤ 65535) (inBand : ∀ f, freq = some f → inFreq f = true) :
    listRecord first last passes pattern (some latch) (some force) we wl freq =
      some ⟨first, last, passes, pattern, latch, force, storedTime 0 10000000 we, storedTime 0 10000000 wl, freq⟩ := by
  have firstInside : first < 256 := by omega
  cases freq with
  | none => simp [listRecord, inStep, order, inside, fewPasses, shortPattern, firstInside]
  | some f =>
    have band := inBand f rfl
    simp only [inFreq, decide_eq_true_eq] at band
    simp [listRecord, inStep, order, inside, fewPasses, shortPattern, firstInside, band]

theorem parseList_accepted (l first last passes pattern we wl : Nat) (latch force : Bool) {freqA : List Arg} {freq : Option Nat}
    (freqRead : parseFreq freqA = some freq) :
    parseList (aId .l l :: aId .s first :: aId .s last :: aNum passes :: aNum pattern ::
        aWord (if latch then .latch else .drop) :: aWord (if force then .force else .halt) :: aNum we :: aNum wl :: freqA) =
      some (l, listRecord first last passes pattern (some latch) (some force) we wl freq) := by
  simp only [parseList, asId_aId, asNum_aNum, asTriggerPolicy_word, asLatePolicy_word, freqRead]

/-- Settles O37: the fields of an accepted STEP and LIST are written rounded and clamped. -/
theorem stepsAndListsAreDefined : Obligations.StepsAndListsAreDefined := by
  intro s alone idle
  constructor
  · intro n dA dB srcA selA ovrA actA repA opsA w src sel ovr act rep ops inside source word select override action report read some_op
      few deft tested
    have parsed := parseStep_accepted (n := n) (dA := dA) (dB := dB) source word select override action report read some_op few
    rw [storedTime_zero, storedTime_zero] at parsed
    refine exec_writes alone rfl rfl (?_ : cmdStep _ s = _)
    simp only [cmdStep, parsed, inside, stepRefusal_accepted (st := ⟨ops, src, _, _, sel, ovr, act, rep⟩) idle deft tested]
    rfl
  · rintro l first last passes pattern we wl tp lp latch force freqA freq inside order lastInside fewPasses shortPattern rfl rfl freqForm
      inBand e w window
    have record := listRecord_accepted (latch := latch) (force := force) (we := we) (wl := wl) order lastInside fewPasses shortPattern
      inBand
    rw [storedTime_zero, storedTime_zero] at record
    have freqRead : parseFreq freqA = some freq := by
      subst freqForm
      cases freq <;> rfl
    have parsed := parseList_accepted l first last passes pattern we wl latch force freqRead
    rw [record] at parsed
    have ordered : ¬ (w ≠ 0 ∧ w ≤ e) := by omega
    refine exec_writes alone rfl rfl (?_ : cmdList _ s = _)
    simp only [cmdList, parsed, inside, seqIdle_iff.2 idle]
    exact if_neg ordered

end Sys2Proof.Machine
end
-- ==== Sys2Proof/Proofs/WearAndLoss.lean ====
section
/-! PROOFS. The commands on wear fields and the drive supply (R104, R107 to R110), on loss tables (R114 to R117, R120), on notices and
status (R153, R195, R197 to R199), and SNAP with its query (R174, R175). -/

namespace Sys2Proof.Machine

/-! ### Wear fields -/

/-- An element whose threshold is off or above its life count is not warned. -/
theorem lifeTest_below {s : State} {e : Nat} {x : Element} (deft : tget s.elems e = some x)
    (below : x.wear.limit = 0 ∨ x.wear.life < x.wear.limit) : s.lifeTest e = s := by
  simp only [State.lifeTest, deft]
  exact if_neg fun ⟨limited, _, reached⟩ => by omega

/-- An unwarned element at its threshold is warned. -/
theorem lifeTest_reached {s : State} {e : Nat} {x : Element} (deft : tget s.elems e = some x) (limited : x.wear.limit ≠ 0)
    (unwarned : x.wear.warned = false) (reached : x.wear.limit ≤ x.wear.life) :
    s.lifeTest e =
      (s.modElem e (fun y => { y with wear := { y.wear with warned := true } })).notify .life (vElem e) (vNum x.wear.life) := by
  simp only [State.lifeTest, deft]
  exact if_pos ⟨limited, unwarned, reached⟩

/-- Two changes of one record are one. -/
theorem tmod_tmod {α : Type} (t : Table α) (j : Nat) (f g : α → α) : tmod (tmod t j f) j g = tmod t j (fun x => g (f x)) := by
  simp only [tmod, List.map_map]
  refine List.map_congr_left fun kv _ => ?_
  by_cases same : kv.1 = j
  · simp [same]
  · simp [same]

/-- A change is told by the record it meets. -/
theorem tmod_congr {α : Type} {t : Table α} {j : Nat} {f g : α → α} (same : ∀ x, (j, x) ∈ t → f x = g x) : tmod t j f = tmod t j g := by
  refine List.map_congr_left fun kv mem => ?_
  by_cases key : kv.1 = j
  · rw [if_pos key, if_pos key, same kv.2 (key ▸ mem)]
  · rw [if_neg key, if_neg key]

theorem tget_tmod_self {α : Type} {t : Table α} {j : Nat} {f : α → α} {x : α} (deft : tget t j = some x) :
    tget (tmod t j f) j = some (f x) := by
  rw [tget_tmod, if_pos rfl, deft]
  rfl

section
variable {s : State} {e n : Nat} {x : Element} (deft : tget s.elems e = some x)
include deft

theorem tget_modWear {f : Wear → Wear} : tget (s.modWear e f).markWear.elems e = some { x with wear := f x.wear } :=
  tget_tmod_self (f := fun y : Element => { y with wear := f y.wear }) deft

theorem setLimit_below (below : n = 0 ∨ x.wear.life < n) :
    ((s.modWear e (fun w => { w with limit := n, warned := false })).markWear).lifeTest e =
      (s.modElem e (fun y => { y with wear := { y.wear with limit := n, warned := false } })).markWear :=
  lifeTest_below (tget_modWear deft) below

theorem setLimit_reached (limited : 0 < n) (reached : n ≤ x.wear.life) :
    ((s.modWear e (fun w => { w with limit := n, warned := false })).markWear).lifeTest e =
      ((s.modElem e (fun y => { y with wear := { y.wear with limit := n, warned := true } })).markWear).notify
        .life (vElem e) (vNum x.wear.life) := by
  rw [lifeTest_reached (tget_modWear deft) (Nat.ne_of_gt limited) rfl reached]
  have once := tmod_tmod s.elems e (fun y => { y with wear := { y.wear with limit := n, warned := false } })
    (fun y => { y with wear := { y.wear with warned := true } })
  unfold State.modElem State.modWear State.modElem State.markWear
  dsimp only
  rw [once]

theorem cmdWearLim_accepted (inside : inElem e = true) (inBound : n ≤ 99999999) :
    cmdWearLim [aId .e e, aNum n] s = okay (((s.modWear e (fun w => { w with limit := n, warned := false })).markWear).lifeTest e) := by
  simp [cmdWearLim, inside, inBound, defined, deft]

end

section
variable {s : State}

theorem cmdWearLim_badArity {args : List Arg} (wrong : args.length ≠ 2) : cmdWearLim args s = nak .badForm s := by
  match args with
  | [] | [_] | _ :: _ :: _ :: _ => rfl
  | [_, _] => exact absurd rfl wrong

theorem cmdWearLim_badNumber {a b : Arg} (bad : asNum b = none) : cmdWearLim [a, b] s = nak .badForm s := by
  cases read : asId .e a <;> simp [cmdWearLim, read, bad]

theorem cmdWearLim_outside {e n : Nat} (out : inElem e = false ∨ 99999999 < n) : cmdWearLim [aId .e e, aNum n] s = nak .range s := by
  have outside : (inElem e && decide (n ≤ 99999999)) = false := by
    rcases out with out | out
    · rw [out, Bool.false_and]
    · rw [decide_eq_false (Nat.not_le.2 out), Bool.and_false]
  simp [cmdWearLim, outside]

theorem cmdWearLim_undefined {e n : Nat} (inside : inElem e = true) (inBound : n ≤ 99999999) (undef : tget s.elems e = none) :
    cmdWearLim [aId .e e, aNum n] s = nak .noId s := by
  simp [cmdWearLim, inside, inBound, defined, undef]

theorem cmdWearClr_badArity {args : List Arg} (wrong : args.length ≠ 1) : cmdWearClr args s = nak .badForm s := by
  match args with
  | [] | _ :: _ :: _ => rfl
  | [_] => exact absurd rfl wrong

end

/-- Settles O34: the wear commands by their refusals, and by whether the life count stands at the threshold. -/
theorem wearAndSupplyCommands : Obligations.WearAndSupplyCommands := by
  intro s alone
  refine ⟨fun e => ?_, fun e x n inside deft inBound below => ?_, fun e x n inside deft inBound limited reached => ?_,
    ⟨fun args wrong => ?_, fun a b bad => ?_, fun e n out => ?_, fun e n inside inBound undef => ?_⟩,
    fun e x inside deft => ?_, ⟨fun args wrong => ?_, fun e out => ?_, fun e inside undef => ?_⟩, fun args some_arg => ?_, ?_⟩
  · exact exec_readNumbered (c := .wearQuery [aId .e e]) alone rfl rfl (by unfold answerOf cmdWearQuery; rfl)
  · exact exec_writes alone rfl rfl ((cmdWearLim_accepted deft inside inBound).trans (by rw [setLimit_below deft below]; rfl))
  · exact exec_writes alone rfl rfl ((cmdWearLim_accepted deft inside inBound).trans (by rw [setLimit_reached deft limited reached]; rfl))
  · exact exec_answers alone rfl rfl (cmdWearLim_badArity wrong)
  · exact exec_answers alone rfl rfl (cmdWearLim_badNumber bad)
  · exact exec_answers alone rfl rfl (cmdWearLim_outside out)
  · exact exec_answers alone rfl rfl (cmdWearLim_undefined inside inBound undef)
  · exact exec_writes alone rfl rfl (by unfold answerOf cmdWearClr; exact onRecord_defined inside deft)
  · exact exec_answers alone rfl rfl (cmdWearClr_badArity wrong)
  · exact exec_answers alone rfl rfl (by unfold answerOf cmdWearClr; exact onRecord_outside out)
  · exact exec_answers alone rfl rfl (by unfold answerOf cmdWearClr; exact onRecord_undefined inside undef)
  · exact exec_answers alone rfl rfl (if_neg some_arg)
  · exact exec_answers alone rfl rfl rfl

/-! ### Loss tables -/

section
variable {s : State} {vs : List Nat}

theorem asAll_nums (vs : List Nat) : asAll asNum (vs.map aNum) = some vs := by
  simpa using asAll_map aNum id asNum_aNum vs

theorem valuesRefusal_accepted (length : vs.length = s.settings.grid.length) (values : ∀ v ∈ vs, v ≤ 3000) : s.valuesRefusal vs = none := by
  have none_over : vs.findIdx? (fun v => 3000 < v) = none := by
    rw [List.findIdx?_eq_none_iff]
    exact fun v mem => decide_eq_false (Nat.not_lt.2 (values v mem))
  simp [State.valuesRefusal, length, none_over]

theorem cmdFreq_accepted {fs : List Nat} (some_point : fs ≠ []) (few : fs.length ≤ 8) (inBand : fs.all inFreq = true)
    (rising : ascending fs = true) : cmdFreq (fs.map aNum) s = okWith [vNum fs.length] (s.setGrid fs) := by
  simp only [cmdFreq, asAll_nums]
  exact if_pos (by simp only [inBand, rising, Bool.and_true]; simp [some_point, few])

theorem connections_le (k : ElemKind) : k.connections ≤ 8 := by
  cases k <;> decide

theorem cmdLossE_accepted {e c : Nat} {x : Element} (inside : inElem e = true) (deft : tget s.elems e = some x) (low : 1 ≤ c)
    (high : c ≤ x.d.kind.connections) (accepted : s.valuesRefusal vs = none) (some_value : vs ≠ []) :
    cmdLossE (aId .e e :: aNum c :: vs.map aNum) s = okay (s.modElem e (putConn c vs)) := by
  have within : c ≤ 8 := high.trans (connections_le _)
  obtain ⟨v, rest, rfl⟩ := List.exists_cons_of_ne_nil some_value
  have read : asAll asNum (aNum v :: rest.map aNum) = some (v :: rest) := asAll_nums (v :: rest)
  simp [cmdLossE, read, inside, low, within, defined, deft, Nat.not_lt.2 high, accepted]

theorem cmdLossN_accepted {n : Nat} {x : Node} (inside : inNode n = true) (deft : tget s.nodes n = some x) (inner : x.kind = .inner)
    (accepted : s.valuesRefusal vs = none) (some_value : vs ≠ []) :
    cmdLossN (aId .n n :: vs.map aNum) s = okay { s with nodes := tset s.nodes n { x with losses := vs } } := by
  obtain ⟨v, rest, rfl⟩ := List.exists_cons_of_ne_nil some_value
  have read : asAll asNum (aNum v :: rest.map aNum) = some (v :: rest) := asAll_nums (v :: rest)
  simp [cmdLossN, read, inside, defined, deft, inner, accepted]

theorem cmdLossElem_connection {e c : Nat} {x : Element} (inside : inElem e = true) (deft : tget s.elems e = some x) (low : 1 ≤ c)
    (high : c ≤ x.d.kind.connections) :
    cmdLossElem [aId .e e, aNum c] s = okWith ((x.losses.getD (c - 1) []).map vNum) s := by
  have within : c ≤ 8 := high.trans (connections_le _)
  simp [cmdLossElem, inside, low, within, defined, deft, Nat.not_lt.2 high, State.connLosses]

theorem cmdLossNode_inner {n : Nat} {x : Node} (inside : inNode n = true) (deft : tget s.nodes n = some x) (inner : x.kind = .inner) :
    cmdLossNode [aId .n n] s = okWith (x.losses.map vNum) s :=
  (onRecord_defined inside deft).trans (if_neg (not_not.2 inner))

theorem cmdLossRoute_route {p f : Nat} {r : Route} (inside : inRoute p = true) (inBand : inFreq f = true)
    (deft : tget s.routes p = some r) :
    cmdLossRoute [aId .p p, aNum f] s = okWith [vNum (s.routeLoss r f), vNum (2 * r.d.hops.length - 1)] s := by
  simp [cmdLossRoute, inside, inBand, defined, deft]

end

/-- Settles O35: the tables are written, and each query reads its list. -/
theorem lossTablesAreWrittenAndRead : Obligations.LossTablesAreWrittenAndRead := by
  intro s alone
  refine ⟨fun fs some_point few inBand rising => ?_, fun e c x vs inside deft low high length some_value values => ?_,
    fun n x vs inside deft inner length some_value values => ?_, ?_, fun e c x inside deft low high => ?_,
    fun n x inside deft inner => ?_, fun p f r inside inBand deft => ?_⟩
  · exact exec_writes alone rfl rfl (cmdFreq_accepted some_point few inBand rising)
  · exact exec_writes alone rfl rfl (cmdLossE_accepted inside deft low high (valuesRefusal_accepted length values) some_value)
  · exact exec_writes alone rfl rfl (cmdLossN_accepted inside deft inner (valuesRefusal_accepted length values) some_value)
  · exact exec_answers alone rfl rfl rfl
  · exact exec_answers alone rfl rfl (cmdLossElem_connection inside deft low high)
  · exact exec_answers alone rfl rfl (cmdLossNode_inner inside deft inner)
  · exact exec_answers alone rfl rfl (cmdLossRoute_route inside inBand deft)

/-! ### Notices and status -/

section
variable {s : State}

theorem cmdNoteQuery_oldest {n : Notice} {q : List Notice} (some_notice : s.notices = n :: q) :
    cmdNoteQuery [] s = (.note n, { s with notices := q }) := by
  simp [cmdNoteQuery, noArgs, some_notice]

theorem cmdNoteQuery_none (empty : s.notices = []) : cmdNoteQuery [] s = (.noNote, s) := by
  simp [cmdNoteQuery, noArgs, empty]

theorem cmdSeqQuery_idle (idle : s.seq = none) : cmdSeqQuery [] s = okWith [vWord "IDLE", [], [], [], [], [], []] s := by
  simp [cmdSeqQuery, noArgs, idle]

theorem cmdSeqQuery_armed {r : Run} (armed : s.seq = some r) :
    cmdSeqQuery [] s = okWith [vWord (match r.mode with
        | .waiting => "WAITING"
        | .switching _ _ => "SWITCHING"
        | .dwell => "DWELL"
        | .halted _ => "HALTED"), vId .l r.list, vStep r.step, vNum r.pass, r.vResume, r.vDue, r.vTrigger] s := by
  simp only [cmdSeqQuery, noArgs, armed, State.seqState]
  cases r.mode <;> rfl

end

/-- Settles O47: each query by what it removes or clears. -/
theorem noticeAndStatusCommands : Obligations.NoticeAndStatusCommands := by
  intro s alone
  refine ⟨fun n q some_notice => ?_, fun empty => ?_, fun on => ?_, ?_, ?_, fun idle => ?_, fun r armed => ?_⟩
  · exact exec_writes alone rfl rfl (cmdNoteQuery_oldest some_notice)
  · exact exec_answers alone rfl rfl (cmdNoteQuery_none empty)
  · cases on <;> exact exec_writes alone rfl rfl rfl
  · exact exec_writes alone rfl rfl rfl
  · exact exec_answers alone rfl rfl rfl
  · exact exec_answers alone rfl rfl (cmdSeqQuery_idle idle)
  · exact exec_answers alone rfl rfl (cmdSeqQuery_armed armed)

/-! ### SNAP -/

/-- A latch filled by a list of targets: a full one is kept, an empty one takes the value when its target is among them. -/
theorem fillLatch_foldl (s : State) (ws : List Kw) (l : Latches) :
    ws.foldl (fillLatch s) l =
      { seq := if Kw.seq ∈ ws then l.seq.or (some s.liveSeq) else l.seq
        pace := if Kw.pace ∈ ws then l.pace.or (some s.livePace) else l.pace
        wind := if Kw.wind ∈ ws then l.wind.or (some s.windowElapsed) else l.wind
        dwell := if Kw.dwell ∈ ws then l.dwell.or (some s.dwellRemaining) else l.dwell } := by
  induction ws generalizing l with
  | nil => rfl
  | cons w ws ih =>
    rw [List.foldl_cons, ih]
    cases w <;> simp [fillLatch]

theorem cmdSnap_targets {s : State} {ws : List Kw} (some_target : ws ≠ []) (targets : ws.all isTarget = true) :
    cmdSnap (ws.map aWord) s = okay { s with timers := { s.timers with latch := ws.foldl (fillLatch s) s.timers.latch } } := by
  have read : asAll asWord (ws.map aWord) = some ws := by simpa using asAll_map aWord id asWord_aWord ws
  obtain ⟨w, rest, rfl⟩ := List.exists_cons_of_ne_nil some_target
  simp only [cmdSnap, read]
  exact if_pos targets

/-- Settles O45: each latch takes its value once, whatever the order of the targets. -/
theorem snapLatchesAndReads : Obligations.SnapLatchesAndReads := by
  intro s alone
  refine ⟨fun ws some_target targets => ?_, ?_⟩
  · exact exec_writes alone rfl rfl ((cmdSnap_targets some_target targets).trans (by rw [fillLatch_foldl]; rfl))
  · exact exec_writes alone rfl rfl rfl

end Sys2Proof.Machine
end
-- ==== Sys2Proof/Proofs/Chains.lean ====
section
/-! PROOFS. Chains of instants that end (R51, R147): a chain given link by link, what a plan without a move set does at once, and the plan
ready of a LINK plan with one op (R57, R66 to R69). -/

namespace Sys2Proof.Machine

/-- A chain of at most so many instants, from a state to the calm state it ends in. -/
inductive Instants : Nat → State → State → Prop
  | done {n : Nat} {s : State} (calm : s.calm) : Instants n s s
  | step {n : Nat} {s t u : State} (next : s.instant = some t) (rest : Instants n t u) : Instants (n + 1) s u

theorem settle_of_instants {n k : Nat} {s t : State} (chain : Instants n s t) (fits : n ≤ k) : settle k s = t := by
  induction chain generalizing k with
  | done calm => exact settle_quiet k calm
  | step next _ ih =>
    obtain ⟨k, rfl⟩ := Nat.exists_eq_succ_of_ne_zero (Nat.ne_of_gt (Nat.lt_of_lt_of_le (Nat.succ_pos _) fits))
    rw [settle_step k next]
    exact ih (Nat.le_of_succ_le_succ fits)

theorem settled_of_instants {n : Nat} {s t : State} (chain : Instants n s t) (fits : n ≤ 8 := by decide) : s.settled = t :=
  settle_of_instants chain (fits.trans (by decide))

/-- A record taken alone whose command begins a chain of instants. -/
theorem exec_settles {s t u : State} {c : Instr} {r : Reply} {n : Nat} (alone : s.takesAlone) (via : c.via = .addressed)
    (record : c.isRecord = true) (answer : answerOf c s = (r, u)) (chain : Instants n (u.reply .addressed r) t)
    (fits : n ≤ 8 := by decide) : exec c s = .next t := by
  rw [exec_record record, receive_settled (via ▸ alone.1) answer, via, settled_of_instants chain fits]

/-- A timed event that begins a chain of instants. -/
theorem whenDue_settles {s t : State} {due : Option Micros} {t0 : Micros} {go : State → State} {n : Nat} (runs : s.life = .running)
    (hdue : due = some t0) (chain : Instants n (go (s.at t0)) t) (fits : n ≤ 8 := by decide) : s.whenDue due go = t := by
  simp only [State.whenDue, hdue]
  exact (if_pos runs).trans (settled_of_instants chain fits)

/-! ### The links of a chain -/

section
variable {s : State} {f : Flight} (flying : s.engine.flight = some f)
include flying

theorem instant_of_done (phase : f.phase = .done) : s.instant = some (s.planReady f) := by
  simp [State.instant, flying, State.flightInstant, phase]

theorem instant_of_resolved (phase : f.phase = .move) (resolved : f.moves.all Move.isResolved = true) :
    s.instant = some (s.planReady f) := by
  simp only [State.instant, flying, State.flightInstant, phase]
  exact if_pos resolved

theorem instant_of_guardPasses (phase : f.phase = .guard) (passes : s.guardPasses f.guard = true) : s.instant = some s.enterMove := by
  simp only [State.instant, flying, State.flightInstant, phase]
  exact if_pos passes

theorem calm_of_guardWaits (phase : f.phase = .guard) (waits : s.guardPasses f.guard = false) : s.calm := by
  simp [State.calm, State.instant, flying, State.flightInstant, phase, waits]

theorem calm_of_moving (phase : f.phase = .move) (moving : f.moves.all Move.isResolved = false) : s.calm := by
  simp [State.calm, State.instant, flying, State.flightInstant, phase, moving]

end

section
variable {s : State} (none_flying : s.engine.flight = none)
include none_flying

theorem instant_of_waiting {p : Plan} {ps : List Plan} (waiting : s.engine.waiting = p :: ps) : s.instant = some s.startPlan := by
  simp [State.instant, none_flying, waiting]

theorem instant_of_submission {r : Run} {due : Option Due} (waiting : s.engine.waiting = []) (submit : s.toSubmit = some (r, due)) :
    s.instant = some (s.submitStep r due) := by
  simp [State.instant, none_flying, waiting, submit]

/-- With no plan queued and no step to submit, a hold being carried ends (R91). -/
theorem instants_of_carry (waiting : s.engine.waiting = []) (submit : s.toSubmit = none) :
    Instants 1 s { s with guard := { s.guard with carry := false } } := by
  have calm : ({ s with guard := { s.guard with carry := false } } : State).calm := calm_of_empty none_flying waiting submit rfl
  cases carry : s.guard.carry with
  | true => exact .step (by simp [State.instant, none_flying, waiting, submit, carry]) (.done calm)
  | false =>
    have same : ({ s with guard := { s.guard with carry := false } } : State) = s := by rw [← carry]
    rw [same] at calm ⊢
    exact .done calm

end

/-! ### Plans without a move set -/

/-- The plan in flight that a plan without a move set becomes: its phase is over as it begins (R57). -/
def Flight.still (p : Plan) (now : Micros) (checkFailed : Bool) : Flight :=
  { plan := p, phase := .done, started := now, moves := [], guard := .empty, checkFailed := checkFailed, guardFailed := false
    holdExpired := false, holdLimit := none, banks := Vector.replicate 8 .fresh }

/-- The state in which CHECK and PLAN find the oldest waiting plan: it has left the queue and its releases are done. -/
def State.released (s : State) (p : Plan) (ps : List Plan) : State :=
  ({ s with engine := { s.engine with waiting := ps } } : State).releasePhase p

theorem startPlan_still {s : State} {p : Plan} {ps : List Plan} (waiting : s.engine.waiting = p :: ps)
    (unmoved : (s.released p ps).moveSet p ((s.released p ps).checkFails p) = []) :
    s.startPlan = (s.released p ps).setFlight (.still p s.now ((s.released p ps).checkFails p)) := by
  unfold State.released at unmoved
  simp only [State.startPlan, waiting, unmoved]
  rfl

/-- A plan without a move set is ready at once. -/
theorem instants_of_still {s u : State} {p : Plan} {ps : List Plan} {n : Nat} (none_flying : s.engine.flight = none)
    (waiting : s.engine.waiting = p :: ps) (unmoved : (s.released p ps).moveSet p ((s.released p ps).checkFails p) = [])
    (rest : Instants n (((s.released p ps).setFlight (.still p s.now ((s.released p ps).checkFails p))).planReady
      (.still p s.now ((s.released p ps).checkFails p))) u) : Instants (n + 2) s u :=
  .step (instant_of_waiting none_flying waiting) (startPlan_still waiting unmoved ▸ .step (instant_of_done rfl rfl) rest)

/-! ### Elements in place -/

theorem inFault_of_inPlace {s : State} {e q : Nat} (placed : s.inPlace e q = true) : s.inFault e = false := by
  unfold State.inPlace at placed
  unfold State.inFault
  split at placed
  next x _ =>
    obtain ⟨idle, -⟩ := of_decide_eq_true placed
    simp [idle]
  · cases placed

section
variable {s : State} {p : Nat} {x : Route} (deft : tget s.routes p = some x)
include deft

theorem hopsOf_defined : s.hopsOf p = x.d.hops := by simp [State.hopsOf, deft]

/-- A route in place needs no move. -/
theorem routeMoves_inPlace (ovr : Option Profile) (placed : ∀ h ∈ x.d.hops, s.inPlace h.1 h.2 = true) : s.routeMoves ovr p = [] := by
  have none_left : x.d.hops.filter (fun h => !s.inPlace h.1 h.2 && s.elemFitted h.1) = [] := by
    rw [List.filter_eq_nil_iff]
    exact fun h mem => by simp [placed h mem]
  simp only [State.routeMoves, deft, none_left, List.map_nil]

theorem linkMoves_inPlace (ovr : Option Profile) (placed : ∀ h ∈ x.d.hops, s.inPlace h.1 h.2 = true) : s.linkMoves ovr [p] = [] := by
  simp [State.linkMoves, routeMoves_inPlace deft ovr placed]

end

/-! ### Plan ready of a LINK plan with one op -/

section
variable {s : State} {f : Flight} {p : Nat} {x : Route}

/-- The cause that the op of a LINK plan fails with, read off the flight (R67). -/
theorem opFailure_link (o : PlanOp) (link : o.kind = .link) (checked : f.checkFailed = false) (guarded : f.guardFailed = false) :
    s.opFailure f o =
      if (s.hopsOf o.route).all (fun h => s.inPlace h.1 h.2) then none else if f.holdExpired then some .supply else some .efault := by
  simp [State.opFailure, link, checked, guarded]

theorem opFailure_guard (o : PlanOp) (link : o.kind = .link) (checked : f.checkFailed = false) (failed : f.guardFailed = true) :
    s.opFailure f o = some .guard := by
  simp [State.opFailure, link, checked, failed]

variable (kind : f.plan.kind = .link) (ops : f.plan.ops = [⟨.link, p, false⟩]) (deft : tget s.routes p = some x)
  (pending : x.st = .pending)
include kind ops deft pending

/-- The op succeeds: the route is held. -/
theorem planReady_linked (succeeds : s.opFailure f ⟨.link, p, false⟩ = none) :
    s.planReady f = { s with
      routes := tmod s.routes p (fun y : Route => { y with st := .held, outcome := some .ok })
      held := s.held ++ [p]
      engine := { s.engine with flight := none }
      guard := s.guard.atReady false
      notices := queueNotice s.notices ⟨.done, s.noticeTime, vRoute p, vNum (s.now - f.started)⟩ } := by
  simp [State.planReady, State.reportOps, State.reportPlan, kind, ops, succeeds, State.applyOutcome, deft, pending, State.opNotice]
  rfl

/-- The op fails: the route is IDLE again. -/
theorem planReady_failed {c : Cause} (fails : s.opFailure f ⟨.link, p, false⟩ = some c) :
    s.planReady f = { s with
      routes := tmod s.routes p (fun y : Route => { y with st := .idle, outcome := some (.failed c), mark := none })
      engine := { s.engine with flight := none }
      guard := s.guard.atReady false
      notices := queueNotice s.notices ⟨.fail, s.noticeTime, vRoute p, vWord (causeText c)⟩ } := by
  simp [State.planReady, State.reportOps, State.reportPlan, kind, ops, fails, State.applyOutcome, deft, pending, State.opNotice]
  rfl

end

/-- The hold after plan ready, once it is carried no further. -/
theorem atReady_dropped (g : GuardUnit) : { g.atReady false with carry := false } = { g with planHold := false, carry := false } := by
  simp [GuardUnit.atReady]

/-- Nothing is to be submitted while no list is armed. -/
theorem toSubmit_of_idle {s : State} (idle : s.seq = none) : s.toSubmit = none := by
  simp [State.toSubmit, idle]

/-- Plan ready with no plan waiting and no list armed: a chain that ends with the hold. -/
theorem instants_of_ready {s u : State} {g : GuardUnit} (guard : u.guard = g.atReady false) (none_flying : u.engine.flight = none)
    (waiting : u.engine.waiting = []) (idle : u.seq = none) (ends : { u with guard := { g with planHold := false, carry := false } } = s) :
    Instants 1 u s := by
  have chain := instants_of_carry none_flying waiting (toSubmit_of_idle idle)
  rw [guard, atReady_dropped, ends] at chain
  exact chain

/-! ### A LINK plan of a route in place -/

section
variable {s : State} {w : Plan} {p : Nat} {x : Route}

/-- A plan that carries no release and is no forced POSN leaves the state as it is at RELEASE. -/
theorem released_bare {ps : List Plan} (releases : w.releases = []) (posn : w.posn = none) :
    s.released w ps = { s with engine := { s.engine with waiting := ps } } := by
  simp [State.released, State.releasePhase, releases, posn]

variable (ops : w.ops = [⟨.link, p, false⟩]) (deft : tget s.routes p = some x)
include ops deft

/-- CHECK of a plan with one link op looks at the elements of its route. -/
theorem checkFails_sound (sound : ∀ h ∈ x.d.hops, s.inFault h.1 = false) : s.checkFails w = false := by
  simpa [State.checkFails, Plan.links, ops, hopsOf_defined deft] using fun e q mem => sound (e, q) mem

omit deft in
/-- The move set of a LINK plan with one op is that of its route. -/
theorem moveSet_link (kind : w.kind = .link) (profile : w.profile = none) : s.moveSet w false = s.linkMoves none [p] := by
  simp [State.moveSet, kind, Plan.links, ops, profile]

end

theorem opFailure_inPlace {s : State} {f : Flight} {p : Nat} {x : Route} (checked : f.checkFailed = false)
    (guarded : f.guardFailed = false) (deft : tget s.routes p = some x) (placed : ∀ h ∈ x.d.hops, s.inPlace h.1 h.2 = true) :
    s.opFailure f ⟨.link, p, false⟩ = none := by
  rw [opFailure_link _ rfl checked guarded]
  exact if_pos (List.all_eq_true.2 (hopsOf_defined deft ▸ placed))

/-- A LINK plan, alone in the queue, of a route in place: its route is held at once, and no hold is left to carry. -/
theorem instants_of_linkInPlace {s : State} {w : Plan} {p : Nat} {x : Route} (none_flying : s.engine.flight = none)
    (waiting : s.engine.waiting = [w]) (kind : w.kind = .link) (ops : w.ops = [⟨.link, p, false⟩]) (releases : w.releases = [])
    (posn : w.posn = none) (profile : w.profile = none) (idle : s.seq = none) (deft : tget s.routes p = some x)
    (pending : x.st = .pending) (placed : ∀ h ∈ x.d.hops, s.inPlace h.1 h.2 = true) :
    Instants 3 s { s with
      routes := tmod s.routes p (fun y : Route => { y with st := .held, outcome := some .ok })
      held := s.held ++ [p]
      engine := { s.engine with waiting := [], flight := none }
      guard := { s.guard with planHold := false, carry := false }
      notices := queueNotice s.notices ⟨.done, s.noticeTime, vRoute p, vNum 0⟩ } := by
  have released := released_bare (s := s) (ps := []) releases posn
  have deft' : tget (s.released w []).routes p = some x := by rw [released]; exact deft
  have placed' : ∀ h ∈ x.d.hops, (s.released w []).inPlace h.1 h.2 = true := by rw [released]; exact placed
  have checked : (s.released w []).checkFails w = false :=
    checkFails_sound ops deft' fun h mem => inFault_of_inPlace (placed' h mem)
  have unmoved : (s.released w []).moveSet w false = [] := by
    rw [moveSet_link ops kind profile]
    exact linkMoves_inPlace deft' none placed'
  refine instants_of_still none_flying waiting (checked.symm ▸ unmoved) ?_
  rw [checked, planReady_linked (s := (s.released w []).setFlight (.still w s.now false)) (f := .still w s.now false) kind ops deft' pending
    (opFailure_inPlace rfl rfl deft' placed'), released]
  refine instants_of_ready rfl rfl rfl idle ?_
  simp [Flight.still, State.noticeTime]

end Sys2Proof.Machine
end
-- ==== Sys2Proof/Proofs/RouteCommands.lean ====
section
/-! PROOFS. The commands of chapter 2 (R26 to R32, R39 to R43, R47, R57) and PLAN? (R74, R75): definitions and deletions, LINK and UNLINK
with and without a plan in flight, the queries, and the prediction for one element. -/

namespace Sys2Proof.Machine

/-! ### PATH and PDEL -/

theorem parseHops_hops (hops : List (Nat × Nat)) : parseHops (hops.flatMap (fun h => [aId .e h.1, aNum h.2])) = some hops := by
  induction hops with
  | nil => rfl
  | cons h rest ih => simp [parseHops, ih]

theorem parsePath_pathArgs (p k : Nat) (d : RouteDef) : parsePath (pathArgs p k d) = some (p, d.src, d.dst, k, d.hops) := by
  simp [parsePath, pathArgs, aId, parseHops_hops d.hops, asId]

section
variable {s : State} {p k : Nat} {d : RouteDef} (profile : profileOf k = some d.profile)
  (inside : pathInRange p d.src d.dst d.hops = true) (deft : s.pathUndefined d = none) (legal : s.pathIllegal d = none)
include profile inside deft legal

/-- A PATH that passes conditions 1 to 4 of R29. -/
theorem cmdPath_passes :
    cmdPath (pathArgs p k d) s =
      match s.continuity d with
      | .error i => nakWith .continuity (vNum i) s
      | .ok (ns, cs) =>
        match s.pathRefusal p ⟨d, ns, cs, .idle, none, none⟩ with
        | some (c, v) => nakWith c v s
        | none => okay { s with routes := tset s.routes p ⟨d, ns, cs, .idle, none, none⟩ } := by
  simp only [cmdPath, parsePath_pathArgs, profile, inside, deft, legal] <;> rfl

end

/-- A new route may be defined when no step names it, or no list is armed, and no step's test would fail. -/
theorem pathRefusal_undefined {s : State} {p : Nat} {r : Route} (undef : tget s.routes p = none)
    (unnamed : s.stepRefs p = [] ∨ s.seq = none) (unbroken : s.stepBrokenBy p r = none) : s.pathRefusal p r = none := by
  have absent : s.routeState p = none := by simp [State.routeState, undef]
  have free : ¬ (s.stepRefs p ≠ [] ∧ s.seqIdle = false) := by
    rintro ⟨named, armed⟩
    rcases unnamed with unnamed | idle
    · exact named unnamed
    · rw [seqIdle_iff.2 idle] at armed
      cases armed
  simp [State.pathRefusal, absent, free, unbroken]

section
variable {s : State} {p : Nat} {r : Route} (inside : inRoute p = true) (deft : tget s.routes p = some r)
include inside deft

theorem cmdPdel_defined :
    cmdPdel [aId .p p] s =
      if r.st ≠ .idle then nak .inUse s
      else
        match s.stepRefs p with
        | n :: _ => nakWith .inUse (vStep n) s
        | [] => okay { s with routes := tdel s.routes p } := by
  unfold cmdPdel
  exact onRecord_defined inside deft

end

/-- Settles O25: PATH by what its walk meets, PDEL by the refusal that comes first. -/
theorem routesAreDefinedAndDeleted : Obligations.RoutesAreDefinedAndDeleted := by
  constructor
  · intro s p k d alone profile inside deft legal
    have passes := cmdPath_passes profile inside deft legal
    refine ⟨fun i broken => ?_, fun ns cs joined undef unnamed unbroken => ?_⟩
    · exact exec_answers alone rfl rfl (passes.trans (by rw [broken]; rfl))
    · refine exec_writes alone rfl rfl (passes.trans ?_)
      simp only [joined, pathRefusal_undefined undef unnamed unbroken]
      rfl
  · intro s p alone
    refine ⟨fun out => ?_, fun inside undef => ?_, fun r inside deft => ?_⟩
    · exact exec_answers alone rfl rfl (by unfold answerOf cmdPdel; exact onRecord_outside out)
    · exact exec_answers alone rfl rfl (by unfold answerOf cmdPdel; exact onRecord_undefined inside undef)
    · have answer := cmdPdel_defined inside deft
      refine ⟨fun busy => ?_, fun n ns idle named => ?_, fun idle unnamed => ?_⟩
      · exact exec_answers alone rfl rfl (answer.trans (if_pos busy))
      · exact exec_answers alone rfl rfl ((answer.trans (if_neg (not_not.2 idle))).trans (by rw [named]; rfl))
      · exact exec_writes alone rfl rfl ((answer.trans (if_neg (not_not.2 idle))).trans (by rw [unnamed]; rfl))

/-! ### LINK -/

section
variable {s : State} {p : Nat} {r : Route}

theorem faultedHop_none (sound : ∀ h ∈ r.d.hops, s.inFault h.1 = false) : s.faultedHop r = none := by
  have none_faulted : r.d.hops.find? (fun h => s.inFault h.1) = none := by
    rw [List.find?_eq_none]
    exact fun h mem => by simp [sound h mem]
  simp [State.faultedHop, none_faulted]

variable (inside : inRoute p = true) (deft : tget s.routes p = some r) (idle : s.seq = none) (st : r.st = .idle)
  (sound : ∀ h ∈ r.d.hops, s.inFault h.1 = false)
include inside deft idle st sound

/-- A LINK that passes the conditions before FULL, without PRE. -/
theorem cmdLink_passes :
    cmdLink [aId .p p] s =
      if 32 < s.projection.length + 1 then nak .full s
      else
        match (s.conflicting p).head? with
        | some q => nakWith .conflict (vRoute q) s
        | none => if s.queueFull then nak .qfull s else okay (s.placeLink p []) := by
  simp only [cmdLink, parseLink, asId_aId, Option.map_some, inside, defined, deft, seqIdle_iff.2 idle, st, faultedHop_none sound] <;> rfl

/-- A LINK with PRE that passes the conditions before FULL. -/
theorem cmdLink_pre_passes :
    cmdLink [aId .p p, aWord .pre] s =
      if 32 < s.projection.length - (s.conflicting p).length + 1 then nak .full s
      else if s.queueFull then nak .qfull s
      else okay (s.placeLink p ((s.conflicting p).map (fun q => (q, .pre p)))) := by
  simp only [cmdLink, parseLink, asId_aId, Option.map_some, inside, defined, deft, seqIdle_iff.2 idle, st, faultedHop_none sound] <;> rfl

end

theorem queueFull_of_room {s : State} (room : s.engine.waiting.length < 4) : s.queueFull = false := by
  simpa [State.queueFull] using room

/-- With a plan in flight, the LINK plan placed behind it is not due. -/
theorem placeLink_calm {s : State} (p : Nat) (ms : List (Nat × MarkKind)) (flying : s.engine.flight.isSome = true) (calm : s.calm) :
    (s.placeLink p ms).calm := by
  refine placePlan_calm _ ?_ (calm_congr (s := s.markRoutes s.engine.nextId ms) rfl rfl rfl rfl (markRoutes_calm _ _ calm))
  rw [State.modRoute_engine, markRoutes_engine]
  exact flying

/-- Settles O26: a plan placed behind the one in flight, and the marks of PRE. -/
theorem linkPlacesAPlan : Obligations.LinkPlacesAPlan := by
  intro s p r alone inside deft idle st sound flying room
  have passes := cmdLink_passes inside deft idle st sound
  have prePasses := cmdLink_pre_passes inside deft idle st sound
  rw [queueFull_of_room room] at passes prePasses
  refine ⟨fun clear fits => ?_, fun q qs hit fits => ?_, fun fits => ?_⟩
  · rw [if_neg (Nat.not_lt.2 fits), clear] at passes
    exact exec_leaves alone rfl rfl passes (placeLink_calm p [] flying alone.2)
  · rw [if_neg (Nat.not_lt.2 fits), hit] at passes
    exact exec_answers alone rfl rfl passes
  · rw [if_neg (Nat.not_lt.2 fits)] at prePasses
    exact exec_leaves alone rfl rfl prePasses (placeLink_calm p _ flying alone.2)

/-- Settles O27: CHECK passes and the move set is empty, so the plan is ready at once, and no hold is left to carry. -/
theorem linkInPlaceIsHeldAtOnce : Obligations.LinkInPlaceIsHeldAtOnce := by
  intro s p r alone inside deft idle st none_flying waiting placed clear fits
  have passes := cmdLink_passes inside deft idle st (fun h mem => inFault_of_inPlace (placed h mem))
  rw [if_neg (Nat.not_lt.2 fits), clear, queueFull_of_room (by simp [waiting])] at passes
  refine exec_settles alone rfl rfl passes (n := 3) ?_
  have chain := instants_of_linkInPlace (s := (s.placeLink p []).reply .addressed (.ok [])) (x := { r with st := .pending })
    none_flying (congrArg (· ++ _) waiting) rfl rfl rfl rfl rfl idle (tget_tmod_self (f := fun x : Route => { x with st := .pending }) deft) rfl placed
  have engine : ({ s.engine with nextId := s.engine.nextId + 1 } : Engine) =
      { s.engine with waiting := [], flight := none, nextId := s.engine.nextId + 1 } := by rw [← waiting, ← none_flying]
  have routes := tmod_tmod s.routes p (fun x : Route => { x with st := .pending }) (fun x => { x with st := .held, outcome := some .ok })
  rw [engine, ← routes]
  exact chain

/-! ### UNLINK -/

section
variable {s : State} {p : Nat} {r : Route} (inside : inRoute p = true) (deft : tget s.routes p = some r) (idle : s.seq = none)
  (unmarked : r.mark = none)
include inside deft idle unmarked

/-- UNLINK of a held route that carries no mark. -/
theorem cmdUnlink_held (held : r.st = .held) (room : s.engine.waiting.length < 4) :
    cmdUnlink [aId .p p] s = okay (s.placeUnlink [p]) := by
  unfold cmdUnlink
  refine (onRecord_defined inside deft).trans ((unlessIdle_of_idle idle).trans ?_)
  simp [held, unmarked, queueFull_of_room room]

/-- UNLINK of a PENDING route whose LINK plan waits. -/
theorem cmdUnlink_waiting (pending : r.st = .pending) (waits : s.linkWaiting p = true) :
    cmdUnlink [aId .p p] s = okay (s.withdrawLink p) := by
  unfold cmdUnlink
  refine (onRecord_defined inside deft).trans ((unlessIdle_of_idle idle).trans ?_)
  simp [pending, unmarked, waits]

end

/-- A plan that carries nothing but releases is over without a notice. -/
theorem planReady_bare {s : State} {f : Flight} (kind : f.plan.kind = .unlink) (ops : f.plan.ops = []) :
    s.planReady f = { s with engine := { s.engine with flight := none }, guard := s.guard.atReady false } := by
  simp [State.planReady, State.reportOps, State.reportPlan, kind, ops]

/-- A release of a held route that carries its UNLINK mark. -/
theorem applyRelease_unlink {s : State} {id p : Nat} {x : Route} (deft : tget s.routes p = some x) (held : x.st = .held)
    (mark : x.mark = some ⟨.unlink, id⟩) : applyRelease id s (p, .unlink) = s.dropRoute p .released := by
  simp [applyRelease, deft, held, mark]

/-- An UNLINK plan, alone in the queue, for one held route: the route is released at once. -/
theorem instants_of_unlink {s : State} {id p : Nat} {x : Route} (none_flying : s.engine.flight = none)
    (waiting : s.engine.waiting = [⟨id, .unlink, none, [], [(p, .unlink)], none, none⟩]) (idle : s.seq = none)
    (deft : tget s.routes p = some x) (held : x.st = .held) (mark : x.mark = some ⟨.unlink, id⟩) :
    Instants 3 s { s with
      routes := tmod s.routes p (fun y : Route => { y with st := .idle, outcome := some .released, mark := none })
      held := s.held.filter (· ≠ p)
      engine := { s.engine with waiting := [], flight := none }
      guard := { s.guard with planHold := false, carry := false } } := by
  have released : s.released ⟨id, .unlink, none, [], [(p, .unlink)], none, none⟩ [] =
      ({ s with engine := { s.engine with waiting := [] } } : State).dropRoute p .released :=
    applyRelease_unlink (x := x) deft held mark
  refine instants_of_still none_flying waiting rfl ?_
  rw [planReady_bare rfl rfl, released]
  exact instants_of_ready rfl rfl rfl idle rfl

theorem withdrawLinks_kept (l : List Nat) (s : State) :
    (l.foldl State.withdrawLink s).engine.flight = s.engine.flight ∧ (l.foldl State.withdrawLink s).engine.nextId = s.engine.nextId ∧
      (l.foldl State.withdrawLink s).guard = s.guard :=
  ⟨foldl_keeps (·.engine.flight) l s, foldl_keeps (·.engine.nextId) l s, foldl_keeps (·.guard) l s⟩

theorem withdrawLinks_calm {s : State} (l : List Nat) (flying : s.engine.flight.isSome = true) (calm : s.calm) :
    (l.foldl State.withdrawLink s).calm := by
  obtain ⟨f, flight⟩ := Option.isSome_iff_exists.1 flying
  obtain ⟨same, -, guard⟩ := withdrawLinks_kept l s
  exact calm_of_flight flight (same.trans flight) guard calm

theorem placeUnlink_calm {s : State} (rs : List Nat) (flying : s.engine.flight.isSome = true) (calm : s.calm) :
    (s.placeUnlink rs).calm :=
  placePlan_calm _ (by rw [markRoutes_engine]; exact flying) (markRoutes_calm _ _ calm)

/-- Settles O28: with no plan queued the UNLINK plan is ready at once; with one in flight nothing more is due. -/
theorem unlinkReleases : Obligations.UnlinkReleases := by
  intro s alone idle
  refine ⟨fun p r none_flying waiting inside deft unmarked held => ?_, fun flying => ?_⟩
  · have answer := cmdUnlink_held inside deft idle unmarked held (by simp [waiting])
    refine exec_settles alone rfl rfl answer (n := 3) ?_
    have chain := instants_of_unlink (s := (s.placeUnlink [p]).reply .addressed (.ok []))
      (x := { r with mark := some ⟨.unlink, s.engine.nextId⟩ }) none_flying (congrArg (· ++ _) waiting) idle
      (tget_tmod_self (f := fun x : Route => { x with mark := some ⟨.unlink, s.engine.nextId⟩ }) deft) held rfl
    have engine : ({ s.engine with nextId := s.engine.nextId + 1 } : Engine) =
        { s.engine with waiting := [], flight := none, nextId := s.engine.nextId + 1 } := by rw [← waiting, ← none_flying]
    have routes := tmod_tmod s.routes p (fun x : Route => { x with mark := some ⟨.unlink, s.engine.nextId⟩ })
      (fun x => { x with st := .idle, outcome := some .released, mark := none })
    rw [engine, ← routes]
    exact chain
  · intro without withdraw w ms
    refine ⟨fun p r inside deft unmarked held room => ?_, fun p r inside deft unmarked pending waits => ?_, fun none_left => ?_,
      fun some_left room => ?_, fun some_left full => ?_⟩
    · exact exec_leaves alone rfl rfl (cmdUnlink_held inside deft idle unmarked held room) (placeUnlink_calm [p] flying alone.2)
    · exact exec_leaves alone rfl rfl (cmdUnlink_waiting inside deft idle unmarked pending waits)
        (withdrawLinks_calm [p] flying alone.2)
    · have answer : cmdUnlinkAll s = okay w := (unlessIdle_of_idle idle).trans (if_pos none_left)
      exact exec_leaves alone rfl rfl answer (withdrawLinks_calm _ flying alone.2)
    · obtain ⟨flight, nextId, -⟩ := withdrawLinks_kept s.unlinkWithdraws s
      have notFull : State.queueFull w = false := queueFull_of_room room
      have answer : cmdUnlinkAll s = okay (State.placeUnlink w s.unlinkMarks) := (unlessIdle_of_idle idle).trans
        ((if_neg some_left).trans (if_neg (Bool.eq_false_iff.1 notFull)))
      have placed : State.placeUnlink w s.unlinkMarks =
          (w.markRoutes s.engine.nextId ms).placePlan ⟨s.engine.nextId, .unlink, none, [], ms, none, none⟩ := by
        unfold State.placeUnlink
        rw [show w.engine.nextId = s.engine.nextId from nextId]
      rw [← placed]
      refine exec_leaves alone rfl rfl answer (placeUnlink_calm _ ?_ (withdrawLinks_calm _ flying alone.2))
      exact (congrArg Option.isSome flight).trans flying
    · have isFull : State.queueFull w = true := decide_eq_true full
      exact exec_answers alone rfl rfl ((unlessIdle_of_idle idle).trans ((if_neg some_left).trans (if_pos isFull)))

/-! ### PATH? and HELD? -/

theorem vStepRefs_eq (l : List Nat) : vStepRefs l = match l with
    | [] => vNum 0
    | n :: ns => vJoin ':' [vNum (ns.length + 1), vStep n] := by
  cases l <;> rfl

/-- Settles O29: the fields of a defined route, and the Held Set. -/
theorem routeQueriesAnswer : Obligations.RouteQueriesAnswer := by
  intro s alone
  refine ⟨fun p r inside deft => ?_, ?_⟩
  · refine exec_answers alone rfl rfl ?_
    unfold answerOf cmdPathQuery
    refine (onRecord_defined inside deft).trans ?_
    rw [vStepRefs_eq]
    rfl
  · exact exec_answers alone rfl rfl rfl

/-! ### PLAN? -/

section
variable {s : State} {p e q : Nat} {r : Route} {x : Element}

theorem answerPlan_faulted (deft : tget s.routes p = some r) (ovr : Option Profile) (faulted : s.faultedHop r = some e) :
    s.answerPlan ovr [p] = nakWith .faulted (vElem e) s := by
  simp [State.answerPlan, deft, faulted]

theorem answerPlan_sound (deft : tget s.routes p = some r) (ovr : Option Profile) (sound : ∀ h ∈ r.d.hops, s.inFault h.1 = false) :
    s.answerPlan ovr [p] = okWith [vNum (s.predict (s.linkMoves ovr [p])).1, vNum (s.predict (s.linkMoves ovr [p])).2.1,
      vNum (s.predict (s.linkMoves ovr [p])).2.2] s := by
  simp [State.answerPlan, deft, faultedHop_none sound]

/-- The move set of a route of one element out of place. -/
theorem linkMoves_single (deft : tget s.routes p = some r) (hops : r.d.hops = [(e, q)]) (elem : tget s.elems e = some x)
    (misplaced : s.inPlace e q = false) (fitted : isFitted s.straps x.d.bank = true) (ovr : Option Profile) :
    s.linkMoves ovr [p] = [⟨e, q, ovr.getD r.d.profile, .waiting, false⟩] := by
  simp [State.linkMoves, State.routeMoves, deft, hops, misplaced, State.elemFitted, elem, fitted, insertMove]

/-- One EML element is one wave in its bank and none in the others. -/
theorem predictBank_eml {m : Move} (elem : tget s.elems m.elem = some x) (eml : x.d.tech = .eml) (size : 1 ≤ s.settings.waveSize[x.d.bank])
    (b : Fin 8) : s.predictBank [m] b =
      if x.d.bank = b then (s.settings.pulseEml + s.settings.settleTime .eml m.profile, 1) else (0, 0) := by
  by_cases same : x.d.bank = b
  · subst same
    obtain ⟨k, hk⟩ := Nat.exists_eq_add_of_le' size
    simp [State.predictBank, State.emInBank, elem, eml, State.predictWaves, hk, State.techOf, Settings.width]
  · simp [State.predictBank, State.emInBank, elem, eml, same, State.predictWaves]

theorem predict_eml {m : Move} (elem : tget s.elems m.elem = some x) (eml : x.d.tech = .eml)
    (size : 1 ≤ s.settings.waveSize[x.d.bank]) :
    s.predict [m] = (s.settings.pulseEml + s.settings.settleTime .eml m.profile, 1, 1) := by
  have bank := predictBank_eml elem eml size
  have noSs : [m].filter (fun m => s.techOf m.elem = .ss) = [] := by simp [State.techOf, elem, eml]
  simp only [State.predict, noSs, allBanks, List.map_cons, List.map_nil, bank]
  generalize x.d.bank = c
  fin_cases c <;> simp

end

/-- Settles O32: the prediction for no move, for one EML move, and for a fault. -/
theorem planQueryPredicts : Obligations.PlanQueryPredicts := by
  intro s p r alone inside deft
  have row : cmdPlanQuery .link [aId .p p] s = s.answerPlan none [p] := by
    unfold cmdPlanQuery
    exact onRecord_defined inside deft
  refine ⟨fun placed => ?_, fun e faulted => ?_, fun e q x hops elem sound misplaced fitted eml size => ?_⟩
  · rw [answerPlan_sound deft none fun h mem => inFault_of_inPlace (placed h mem), linkMoves_inPlace deft none placed] at row
    exact exec_answers alone rfl rfl row
  · rw [answerPlan_faulted deft none faulted] at row
    exact exec_answers alone rfl rfl row
  · have noFault : ∀ h ∈ r.d.hops, s.inFault h.1 = false := by
      simp [hops, State.inFault, elem, sound]
    have answer (ovr : Option Profile) := answerPlan_sound deft ovr noFault
    simp only [linkMoves_single deft hops elem misplaced fitted, predict_eml (m := ⟨e, q, _, .waiting, false⟩) elem eml size] at answer
    refine ⟨?_, fun n st prof insideStep deftStep ops ovr => ?_⟩
    · exact exec_answers alone rfl rfl (row.trans (answer none))
    · have stepRow : cmdPlanQuery .step [aId .s n] s = s.answerPlan (some prof) [p] := by
        unfold cmdPlanQuery
        refine (onRecord_defined insideStep deftStep).trans ?_
        simp [ops, ovr]
      exact exec_answers alone rfl rfl (stepRow.trans (answer (some prof)))

end Sys2Proof.Machine
end
-- ==== Sys2Proof/Proofs/SequencerCommands.lean ====
section
/-! PROOFS. The commands on the sequencer (R135 to R151): ARM, GO, HALT, RESUME and ABORT, and the submission of a step's plan. -/

namespace Sys2Proof.Machine

/-- The step of a run whose step is defined, and its list. -/
theorem runStep_of {s : State} {r : Run} {st : StepRec} (deft : tget s.settings.steps r.step = some st) : s.runStep r = st := by
  simp [State.runStep, deft]

theorem runList_of {s : State} {r : Run} {l : ListRec} (deft : tget s.settings.lists r.list = some l) : s.runList r = l := by
  simp [State.runList, deft]

/-! ### What the sequencer's operations leave due -/

/-- A change of the run makes nothing due unless it asks for a submission. -/
theorem calm_of_run {s t : State} (calm : s.calm) (submit : s.toSubmit = none → t.toSubmit = none)
    (engine : t.engine = s.engine := by rfl) (guard : t.guard = s.guard := by rfl) : t.calm := by
  cases flight : s.engine.flight with
  | some f => exact calm_of_flight flight (engine ▸ flight) guard calm
  | none =>
    obtain ⟨waiting, none_due, carry⟩ := calm_empty calm flight
    exact calm_of_empty (engine ▸ flight) (engine ▸ waiting) (submit none_due) (guard ▸ carry)

theorem toSubmit_none {s : State} (h : ∀ r, s.seq = some r → ∀ due, r.mode ≠ .switching false due) : s.toSubmit = none := by
  unfold State.toSubmit
  split
  next r armed =>
    split
    next due mode => exact absurd mode (h r armed due)
    · rfl
  · rfl

/-- A run whose step's plan is submitted has nothing to submit. -/
theorem toSubmit_switching {s : State} {r : Run} {due : Option Due} {b : Bool} (armed : s.seq = some r) (mode : r.mode = .switching b due) :
    s.toSubmit = if b then none else some (r, due) := by
  cases b <;> simp [State.toSubmit, armed, mode]

/-- A run in another mode than SWITCHING has nothing to submit. -/
theorem toSubmit_of_mode {s : State} {r : Run} (armed : s.seq = some r) (mode : ∀ due, r.mode ≠ .switching false due) :
    s.toSubmit = none :=
  toSubmit_none fun r' armed' => by
    cases armed.symm.trans armed'
    exact mode

/-- A record taken alone, with whatever is due after it. -/
theorem exec_unsettled {s u : State} {c : Instr} {r : Reply} (alone : s.takesAlone) (via : c.via = .addressed)
    (record : c.isRecord = true) (answer : answerOf c s = (r, u)) : exec c s = .next (u.reply .addressed r).settled := by
  rw [exec_record record, receive_settled (via ▸ alone.1) answer, via]

/-! ### GO -/

section
variable {s : State} {r : Run} {l : ListRec} (armed : s.seq = some r) (deft : tget s.settings.lists r.list = some l)
  (named : s.sourceNamed l .soft = true)
include armed

theorem cmdGo_armed : cmdGo s = okay (s.advanceEvent .soft) := if_neg (by simp [State.seqIdle, armed])

include deft named

theorem advanceEvent_waiting (mode : r.mode = .waiting) (soft : (s.runStep r).src = .soft) :
    s.advanceEvent .soft =
      if l.early ≤ s.windowElapsed then (s.stopWindow s.windowElapsed).enterSwitching r
      else s.notify .early (vStep r.step) (vNum s.windowElapsed) := by
  simp [State.advanceEvent, armed, runList_of deft, named, mode, soft, State.testEvent]

theorem advanceEvent_dwell (mode : r.mode = .dwell) (latch : l.latch = true) :
    s.advanceEvent .soft =
      match r.trigger with
      | none => { s with seq := some { r with trigger := some (.soft, s.noticeTime) } }
      | some (p, _) => s.notify .triglost (vSource .soft) (vSource p) := by
  simp only [State.advanceEvent, armed, runList_of deft, named, mode, latch] <;> rfl

theorem advanceEvent_halted {p : ResumePoint} (mode : r.mode = .halted p) : s.advanceEvent .soft = s := by
  simp [State.advanceEvent, armed, runList_of deft, named, mode]

end

/-- A station that takes an addressed record takes a broadcast. -/
theorem takes_broadcast {s : State} (takes : s.takes .addressed) : s.takes .broadcast := by
  obtain ⟨hears, inbound, ready⟩ := takes
  simp only [State.hears, Bool.and_eq_true] at hears
  simp only [State.ready, Bool.and_eq_true] at ready
  exact ⟨by simp [State.hears, of_decide_eq_true hears.1], inbound, by simp [State.ready, ready.1]⟩

/-- A broadcast taken alone: the command's own effect. -/
theorem exec_broadcast {s u : State} {c : Instr} {r : Reply} (alone : s.takesAlone) (via : c.via = .broadcast) (record : c.isRecord = true)
    (answer : answerOf c s = (r, u)) (calm : u.calm) : exec c s = .next u := by
  rw [exec_record record, receive_alone (via ▸ takes_broadcast alone.1) answer calm, via, State.reply_broadcast]

/-- Settles O40: GO by the state of the sequencer. -/
theorem goIsAnAdvanceEvent : Obligations.GoIsAnAdvanceEvent := by
  intro s alone
  have refused (idle : s.seq = none) : cmdGo s = (.nak .state [], s) := if_pos (seqIdle_iff.2 idle)
  refine ⟨fun idle => ?_, fun idle => ?_, fun r l armed deft named => ?_⟩
  · exact exec_answers alone rfl rfl (refused idle)
  · exact exec_broadcast alone rfl rfl (refused idle) alone.2
  have answer := cmdGo_armed armed
  refine ⟨fun mode soft late => ?_, fun mode soft early => ?_, fun mode latch free => ?_, fun src t mode latch pending => ?_,
    fun p mode => ?_⟩
  · rw [advanceEvent_waiting armed deft named mode soft, if_pos late] at answer
    exact exec_unsettled alone rfl rfl answer
  · rw [advanceEvent_waiting armed deft named mode soft, if_neg (Nat.not_le.2 early)] at answer
    exact exec_writes alone rfl rfl answer
  · rw [advanceEvent_dwell armed deft named mode latch, free] at answer
    exact exec_leaves alone rfl rfl answer (calm_of_run alone.2 fun _ => toSubmit_of_mode rfl (by simp [mode]))
  · rw [advanceEvent_dwell armed deft named mode latch, pending] at answer
    exact exec_writes alone rfl rfl answer
  · rw [advanceEvent_halted armed deft named mode] at answer
    exact ⟨exec_answers alone rfl rfl answer, exec_broadcast alone rfl rfl answer alone.2⟩

/-! ### HALT -/

theorem cmdHalt_of {s t : State} {v : Via} (halts : s.haltRun = some t) : cmdHalt v [] s = okay t := by
  simp [cmdHalt, halts]

theorem cmdHalt_refused {s : State} {v : Via} (refused : s.haltRun = none) : cmdHalt v [] s = nak .state s := by
  simp [cmdHalt, refused]

/-- Settles O41: HALT by the state of the sequencer. -/
theorem haltActsByState : Obligations.HaltActsByState := by
  intro s alone
  refine ⟨fun idle => ?_, fun r armed => ⟨fun mode => ?_, fun mode => ?_, fun b mode => ?_, fun b d p mode => ?_⟩⟩
  · have refused : s.haltRun = none := by simp [State.haltRun, idle]
    exact ⟨exec_answers alone rfl rfl (cmdHalt_refused refused), exec_broadcast alone rfl rfl (cmdHalt_refused refused) alone.2⟩
  · have halts : s.haltRun = some ((s.stopWindow s.windowElapsed).enterHalted r .wait "HALT") := by simp [State.haltRun, armed, mode]
    exact exec_leaves alone rfl rfl (cmdHalt_of halts) (calm_of_run alone.2 fun _ => toSubmit_of_mode rfl (by simp))
  · have halts : s.haltRun = some (s.freezeDwell.enterHalted r .dwellRemaining "HALT") := by simp [State.haltRun, armed, mode]
    exact exec_leaves alone rfl rfl (cmdHalt_of halts) (calm_of_run alone.2 fun _ => toSubmit_of_mode rfl (by simp))
  · have halts : s.haltRun = some { s with seq := some { r with mode := .switching b (some .halt) } } := by
      simp [State.haltRun, armed, mode]
    refine exec_leaves alone rfl rfl (cmdHalt_of halts) (calm_of_run alone.2 fun none_due => ?_)
    rw [toSubmit_switching armed mode] at none_due
    cases b with
    | true => simp [State.toSubmit]
    | false => cases none_due
  · have refused : s.haltRun = none := by
      rcases mode with mode | mode <;> simp [State.haltRun, armed, mode]
    exact exec_answers alone rfl rfl (cmdHalt_refused refused)

/-! ### RESUME and ABORT -/

section
variable {s : State} {r : Run} (armed : s.seq = some r)
include armed

theorem cmdResume_halted {p : ResumePoint} (mode : r.mode = .halted p) : cmdResume [] s = okay (s.resumeRun r p) := by
  simp [cmdResume, noArgs, armed, mode]

omit armed in
theorem enterWaiting_untriggered (t : State) (untriggered : r.trigger = none) :
    t.enterWaiting r = { t with seq := some { r with mode := .waiting, trigger := none }
                                timers := { t.timers with window := .running t.now } } := by
  simp [State.enterWaiting, untriggered]

theorem cmdAbort_switching {b : Bool} {due : Option Due} (mode : r.mode = .switching b due) (open_ : due ≠ some .abort) :
    cmdAbort [] s = okay { s with seq := some { r with mode := .switching b (some .abort) } } := by
  cases due with
  | none => simp [cmdAbort, noArgs, armed, mode]
  | some d =>
    cases d with
    | halt => simp [cmdAbort, noArgs, armed, mode]
    | abort => exact absurd rfl open_

theorem cmdAbort_due {b : Bool} (mode : r.mode = .switching b (some .abort)) : cmdAbort [] s = nak .state s := by
  simp [cmdAbort, noArgs, armed, mode]

theorem cmdAbort_ends (mode : r.mode = .waiting ∨ r.mode = .dwell ∨ ∃ p, r.mode = .halted p) :
    cmdAbort [] s = okay ((s.notify .halt (vStep r.step) (vWord "ABORT")).returnIdle) := by
  rcases mode with mode | mode | ⟨p, mode⟩ <;> simp [cmdAbort, noArgs, armed, mode, State.endRun]

end

/-- Settles O42: RESUME by its resume point, ABORT by the state of the sequencer. -/
theorem resumeAndAbort : Obligations.ResumeAndAbort := by
  intro s alone
  refine ⟨fun idle => ?_, fun r armed => ⟨fun mode untriggered => ?_, fun mode left => ?_, fun mode => ?_, fun mode => ?_,
    fun b mode => ?_, fun b mode => ?_⟩⟩
  · exact ⟨exec_answers alone rfl rfl (by simp [answerOf, cmdResume, noArgs, idle, nak]),
      exec_answers alone rfl rfl (by simp [answerOf, cmdAbort, noArgs, idle, nak])⟩
  · have answer := cmdResume_halted armed mode
    rw [State.resumeRun, enterWaiting_untriggered _ untriggered] at answer
    exact exec_leaves alone rfl rfl answer (calm_of_run alone.2 fun _ => toSubmit_of_mode rfl (by simp))
  · have answer := (cmdResume_halted armed mode).trans (congrArg okay (if_neg left))
    exact exec_leaves alone rfl rfl answer (calm_of_run alone.2 fun _ => toSubmit_of_mode rfl (by simp))
  · exact exec_unsettled alone rfl rfl (cmdResume_halted armed mode)
  · exact exec_leaves alone rfl rfl (cmdAbort_ends armed mode) (calm_of_run alone.2 fun _ => toSubmit_of_idle rfl)
  · have answer : cmdAbort [] s = okay { s with seq := some { r with mode := .switching b (some .abort) } } :=
      mode.elim (cmdAbort_switching armed · (by decide)) (cmdAbort_switching armed · (by decide))
    refine exec_leaves alone rfl rfl answer (calm_of_run alone.2 fun none_due => ?_)
    have submitted : b = true := by
      rcases mode with mode | mode <;> rw [toSubmit_switching armed mode] at none_due <;> cases b <;> simp at none_due ⊢
    subst submitted
    simp [State.toSubmit]
  · exact exec_answers alone rfl rfl (cmdAbort_due armed mode)

/-! ### ARM -/

section
variable {s : State} {l : Nat} {r : ListRec} (inside : inList l = true) (deft : tget s.settings.lists l = some r) (idle : s.seq = none)
  (waiting : s.engine.waiting = []) (none_flying : s.engine.flight = none) (missing : s.missingStep r = none)
include inside deft idle waiting none_flying missing

theorem cmdArm_accepted (ends : r.passes ≠ 0 ∨ s.allAuto r = false) : cmdArm [aId .l l] s = okay (s.armList l r) := by
  unfold cmdArm
  refine (onRecord_defined inside deft).trans ((unlessIdle_of_idle idle).trans ?_)
  simp only [waiting, none_flying, missing]
  have notEndless : ¬ (r.passes = 0 ∧ s.allAuto r = true) := fun ⟨endless, auto⟩ =>
    ends.elim (· endless) (fun stops => by rw [stops] at auto; cases auto)
  simp [notEndless]

end

section
variable {s : State} {r : Run} {st : StepRec} (deft : tget s.settings.steps r.step = some st)
include deft

/-- A step that becomes current and is not AUTO waits for its source, the pending trigger being empty. -/
theorem makeCurrent_waits (waits : st.src ≠ .auto) (untriggered : r.trigger = none) :
    s.makeCurrent r = { s with seq := some { r with mode := .waiting, trigger := none }
                               timers := { s.timers with window := .running s.now } } := by
  rw [State.makeCurrent, runStep_of deft, if_neg waits, enterWaiting_untriggered s untriggered]

theorem makeCurrent_auto (auto : st.src = .auto) :
    s.makeCurrent r = { s with seq := some { r with mode := .switching false none } } := by
  rw [State.makeCurrent, runStep_of deft, if_pos auto]
  rfl

end

/-! ### Submission of a step's plan -/

section
variable {s : State}

theorem isHeld_of {p : Nat} (held : s.routeState p = some .held) : s.isHeld p = true := decide_eq_true held

theorem not_isHeld_of {p : Nat} (free : s.routeState p ≠ some .held) : s.isHeld p = false := decide_eq_false free

@[simp] theorem projectionLess_nil : s.projectionLess [] = s.projection := by
  simp [State.projectionLess, marks]

/-- A step of one LINK op finds no marks. -/
theorem stepMarks_link (p : Nat) : s.stepMarks [⟨.link, p⟩] = [] := by
  simp [State.stepMarks, State.findMarks]

/-- A LINK op of a route that is not held is to be done. -/
theorem unsatisfied_link {p : Nat} (free : s.isHeld p = false) : s.unsatisfied [] [⟨.link, p⟩] = [⟨.link, p⟩] := by
  simp [State.unsatisfied, State.isSatisfied, free]

theorem unsatisfied_held {p : Nat} (held : s.isHeld p = true) : s.unsatisfied [] [⟨.link, p⟩] = [] := by
  simp [State.unsatisfied, State.isSatisfied, held, marks]

/-- A LINK op conflicts with the first other route of the projection in conflict with its route. -/
theorem stepConflict_link {p : Nat} (free : s.isHeld p = false) :
    s.stepConflict [] [⟨.link, p⟩] = (((s.conflicting p).filter (· ≠ p)).head?).map (fun r => (p, r)) := by
  rw [State.stepConflict, unsatisfied_link free, State.conflicting, List.filter_filter, List.head?_filter]
  simp

/-- One op to be done finds room while the projection leaves any. -/
theorem stepFull_one {ms : List (Nat × MarkKind)} {ops : List StepOp} {o : StepOp} (one : s.unsatisfied ms ops = [o]) :
    s.stepFull ms ops = if 32 ≤ (s.projectionLess ms).length then some o.route else none := by
  rw [State.stepFull, one]
  by_cases full : 32 ≤ (s.projectionLess ms).length
  · rw [if_pos full, Nat.sub_eq_zero_of_le full]
    rfl
  · rw [if_neg full, List.drop_of_length_le (by simp; omega)]
    rfl

variable {p q : Nat}

/-- The marks a LINKP op of p and an UNLINK op of q find: PRE for every other route in conflict, and UNLINK for q. -/
theorem findMarks_linkp_unlink (held : s.isHeld q = true) :
    s.findMarks [⟨.linkp, p⟩, ⟨.unlink, q⟩] =
      (q, .unlink) :: ((s.conflicting p).filter (fun r => r ≠ p && r ≠ q)).map (fun r => (r, MarkKind.pre p)) := by
  have pre : s.preMarks p [(q, .unlink)] = ((s.conflicting p).filter (fun r => r ≠ p && r ≠ q)).map (fun r => (r, MarkKind.pre p)) := by
    rw [State.preMarks, State.conflicting, List.filter_filter]
    refine congrArg _ (List.filter_congr fun r _ => ?_)
    simp [marks, eq_comm (a := q)]
  simp [State.findMarks, held, pre]

/-- The marks in op order: those of the LINKP op first. -/
theorem stepMarks_linkp_unlink (held : s.isHeld q = true) :
    s.stepMarks [⟨.linkp, p⟩, ⟨.unlink, q⟩] =
      ((s.conflicting p).filter (fun r => r ≠ p && r ≠ q)).map (fun r => (r, MarkKind.pre p)) ++ [(q, .unlink)] := by
  rw [State.stepMarks, findMarks_linkp_unlink held]
  generalize (s.conflicting p).filter (fun r => r ≠ p && r ≠ q) = rs
  have keepsPre : (rs.map (fun r => (r, MarkKind.pre p))).filter (markOf ⟨.linkp, p⟩) = rs.map (fun r => (r, MarkKind.pre p)) := by
    simp [markOf]
  have dropsPre : (rs.map (fun r => (r, MarkKind.pre p))).filter (markOf ⟨.unlink, q⟩) = [] := by
    simp [markOf]
  simp [keepsPre, dropsPre, List.filter_cons, markOf]

theorem unsatisfied_linkp_unlink (ms : List (Nat × MarkKind)) (free : s.isHeld p = false) :
    s.unsatisfied ms [⟨.linkp, p⟩, ⟨.unlink, q⟩] = [⟨.linkp, p⟩] := by
  simp [State.unsatisfied, State.isSatisfied, free]

end

section
variable {u : State} {run : Run} {due : Option Due} {st : StepRec}

theorem submitStep_conflict {p q : Nat} (deft : u.runStep run = st)
    (conflict : u.stepConflict (u.stepMarks st.ops) st.ops = some (p, q)) :
    u.submitStep run due = u.submissionFails run p (vJoin ':' [vWord "CONFLICT", vRoute q]) := by
  simp [State.submitStep, deft, conflict]

theorem submitStep_full {p : Nat} (deft : u.runStep run = st) (clear : u.stepConflict (u.stepMarks st.ops) st.ops = none)
    (full : u.stepFull (u.stepMarks st.ops) st.ops = some p) : u.submitStep run due = u.submissionFails run p (vWord "FULL") := by
  simp [State.submitStep, deft, clear, full]

theorem submitStep_passes (deft : u.runStep run = st) (clear : u.stepConflict (u.stepMarks st.ops) st.ops = none)
    (fits : u.stepFull (u.stepMarks st.ops) st.ops = none) :
    u.submitStep run due = u.submitPlan run due (u.stepMarks st.ops) st := by
  simp [State.submitStep, deft, clear, fits]

end

/-- Settles O39: ARM makes the first step current; a submission goes through its four stages, which for one LINK op, and for a LINKP op
with an UNLINK op, are read off the projection. -/
theorem armStartsTheList : Obligations.ArmStartsTheList := by
  constructor
  · intro s l r st alone inside deft idle waiting none_flying missing deftStep ends
    have answer := cmdArm_accepted inside deft idle waiting none_flying missing ends
    refine ⟨fun waits => ?_, fun auto => ?_⟩
    · have current := makeCurrent_waits (s := ({ s with timers := { s.timers with latch := .empty } } : State).startPace)
        (r := ⟨l, r.first, 0, .waiting, none, none⟩) deftStep waits rfl
      exact exec_leaves alone rfl rfl (answer.trans (congrArg okay current)) (calm_of_run alone.2 fun _ => toSubmit_of_mode rfl (by simp))
    · have current := makeCurrent_auto (s := ({ s with timers := { s.timers with latch := .empty } } : State).startPace)
        (r := ⟨l, r.first, 0, .waiting, none, none⟩) deftStep auto
      exact exec_unsettled alone rfl rfl (answer.trans (congrArg okay current))
  · intro u run due st p armed deft none_flying waiting fails placed
    have step : u.runStep { run with mode := .switching false due } = st := runStep_of (r := { run with mode := _ }) deft
    have submits : u.instant = some (u.submitStep { run with mode := .switching false due } due) :=
      instant_of_submission none_flying waiting (toSubmit_switching armed rfl)
    rw [submits]
    refine ⟨fun ops free => ?_, fun ops held => ?_, fun q ops apart free held room => ?_⟩
    · have notHeld := not_isHeld_of free
      have marks : u.stepMarks st.ops = [] := ops ▸ stepMarks_link p
      have conflict := stepConflict_link notHeld
      have full := stepFull_one (unsatisfied_link notHeld)
      rw [projectionLess_nil] at full
      rw [← ops] at conflict full
      refine ⟨fun q qs hit => ?_, fun clear few => ?_, fun clear room => ?_⟩
      · rw [hit] at conflict
        exact congrArg some (submitStep_conflict step (marks ▸ conflict))
      · rw [clear] at conflict
        rw [if_pos few] at full
        exact congrArg some (submitStep_full step (marks ▸ conflict) (marks ▸ full))
      · rw [clear] at conflict
        rw [if_neg (Nat.not_le.2 room)] at full
        rw [submitStep_passes step (marks ▸ conflict) (marks ▸ full), marks]
        simp [State.submitPlan, ops, unsatisfied_link notHeld, State.isSatisfied, notHeld, placed, waiting, State.markRoutes,
          State.placePlan, State.modRoute]
    · have isHeld := isHeld_of held
      have marks : u.stepMarks st.ops = [] := ops ▸ stepMarks_link p
      have clear : u.stepConflict [] st.ops = none := by simp [ops, State.stepConflict, unsatisfied_held isHeld]
      have fits : u.stepFull [] st.ops = none := by simp [ops, State.stepFull, unsatisfied_held isHeld]
      rw [submitStep_passes step (marks ▸ clear) (marks ▸ fits), marks]
      simp [State.submitPlan, ops, unsatisfied_held isHeld, State.isSatisfied, isHeld, placed, waiting, State.markRoutes,
        State.placePlan, Machine.marks]
    · have notHeld : u.isHeld p = false := not_isHeld_of (by simp [free])
      have marks := stepMarks_linkp_unlink (p := p) (isHeld_of held)
      rw [← ops] at marks
      have one := unsatisfied_linkp_unlink (q := q) (u.stepMarks st.ops) notHeld
      rw [← ops] at one
      have clear : u.stepConflict (u.stepMarks st.ops) st.ops = none := by simp [State.stepConflict, one]
      have fits : u.stepFull (u.stepMarks st.ops) st.ops = none := by
        rw [stepFull_one one]
        have fewer : (u.projectionLess (u.stepMarks st.ops)).length ≤ u.projection.length := List.length_filter_le _ _
        exact if_neg (by omega)
      rw [submitStep_passes step clear fits]
      simp only [placed]
      rw [← marks]
      generalize u.stepMarks st.ops = ms at one
      have marked : u.markRoutes u.engine.nextId ms =
          ms.foldl (fun w rk => w.modRoute rk.1 (fun x => { x with mark := some ⟨rk.2, u.engine.nextId⟩ })) u := rfl
      rw [← marked]
      simp [State.submitPlan, one, State.placePlan, waiting]
      simp [ops, State.isSatisfied, notHeld]

end Sys2Proof.Machine
end
-- ==== Sys2Proof/Proofs/StoreAndLink.lean ====
section
/-! PROOFS. The Image Store's commands and writes (R203 to R209) and the events of the command link (R180, R186, R188). -/

namespace Sys2Proof.Machine

/-! ### The flush -/

theorem flushTarget_eq (im : Image) : im.flushTarget = match im.slotA, im.slotB with
    | some a, some b => if a.flushNo < b.flushNo then (false, b.flushNo + 1) else (true, a.flushNo + 1)
    | some a, none => (true, a.flushNo + 1)
    | none, some b => (false, b.flushNo + 1)
    | none, none => (false, 1) := by
  unfold Image.flushTarget Image.newest
  cases im.slotA with
  | none => cases im.slotB <;> rfl
  | some a =>
    cases im.slotB with
    | none => rfl
    | some b =>
      by_cases older : a.flushNo < b.flushNo
      · simp [older]
      · simp [older]

theorem setSlot_eq (im : Image) (toB : Bool) (w : Option WearSlot) :
    im.setSlot toB w = { im with slotA := if toB then im.slotA else w, slotB := if toB then w else im.slotB } := by
  cases toB <;> rfl

/-- What a flush that begins leaves (R205). -/
theorem startFlush_eq (s : State) : s.startFlush = { s with store := { s.store with
      image := { s.store.image with
        slotA := if s.store.image.flushTarget.1 then s.store.image.slotA else none
        slotB := if s.store.image.flushTarget.1 then none else s.store.image.slotB
        writes := s.store.image.writes + 1 }
      st := .flushing s.store.image.flushTarget.1 ⟨s.wearTable,
        match s.store.image.table with
        | some sec => sec.saveNo
        | none => s.store.image.saveNo, s.store.image.flushTarget.2⟩ s.now
      mark := false
      clock := .absent } } := by
  simp only [State.startFlush, setSlot_eq] <;> rfl

section
variable {s : State}

theorem dueFlush_undue (undue : s.store.clock ≠ .due) : s.dueFlush = s := if_neg undue

theorem dueFlush_wanted (due : s.store.clock = .due) (mark : s.store.mark = true) (good : s.store.cond = .good) :
    s.dueFlush = s.startFlush := by
  simp [State.dueFlush, due, Store.flushWanted, mark, good]

theorem dueFlush_skipped (due : s.store.clock = .due) (bad : s.store.cond ≠ .good) :
    s.dueFlush = { s with store := { s.store with clock := .absent } } := by
  simp [State.dueFlush, due, Store.flushWanted, bad]

theorem finalFlush_unasked (unasked : s.link.stop ≠ some .waiting) : s.finalFlush = s := if_neg unasked

theorem storeFree_busy (busy : s.store.st ≠ .idle) : s.storeFree = s := if_neg busy

theorem storeFree_idle (idle : s.store.st = .idle) : s.storeFree = s.dueFlush.finalFlush := if_pos idle

/-- The final flush finds nothing to flush. -/
theorem finalFlush_none (asked : s.link.stop = some .waiting) (idle : s.store.st = .idle) (mark : s.store.mark = false) :
    s.finalFlush = { s with link := { s.link with stop := some .ended } } := by
  simp [State.finalFlush, asked, idle, Store.flushWanted, mark]

/-- The final flush is made at once. -/
theorem finalFlush_made (asked : s.link.stop = some .waiting) (idle : s.store.st = .idle) (mark : s.store.mark = true)
    (good : s.store.cond = .good) : s.finalFlush = { s.startFlush with link := { s.link with stop := some .running } } := by
  simp [State.finalFlush, asked, idle, Store.flushWanted, mark, good, State.startFlush]

/-- A flush that begins for a due clock is the final flush too. -/
theorem finalFlush_startFlush (asked : s.link.stop = some .waiting) :
    s.startFlush.finalFlush = { s.startFlush with link := { s.link with stop := some .running } } := by
  simp [State.finalFlush, State.startFlush, asked]

/-- A final flush with the mark set and the image good: one flush, whether the flush clock was due or not. -/
theorem storeFree_flushes (asked : s.link.stop = some .waiting) (idle : s.store.st = .idle) (mark : s.store.mark = true)
    (good : s.store.cond = .good) : s.storeFree = { s.startFlush with link := { s.link with stop := some .running } } := by
  rw [storeFree_idle idle]
  by_cases due : s.store.clock = .due
  · rw [dueFlush_wanted due mark good]
    exact finalFlush_startFlush asked
  · rw [dueFlush_undue due]
    exact finalFlush_made asked idle mark good

/-- A final flush with nothing to flush. -/
theorem storeFree_ends (asked : s.link.stop = some .waiting) (idle : s.store.st = .idle) (undue : s.store.clock ≠ .due)
    (mark : s.store.mark = false) : s.storeFree = { s with link := { s.link with stop := some .ended } } := by
  rw [storeFree_idle idle, dueFlush_undue undue]
  exact finalFlush_none asked idle mark

/-- The flush clock's flush with no RESET pending. -/
theorem storeFree_made (due : s.store.clock = .due) (idle : s.store.st = .idle) (mark : s.store.mark = true)
    (good : s.store.cond = .good) (stop : s.link.stop = none) : s.storeFree = s.startFlush := by
  rw [storeFree_idle idle, dueFlush_wanted due mark good]
  exact finalFlush_unasked (by simp [State.startFlush, stop])

theorem storeFree_skipped (due : s.store.clock = .due) (idle : s.store.st = .idle) (bad : s.store.cond ≠ .good)
    (stop : s.link.stop = none) : s.storeFree = { s with store := { s.store with clock := .absent } } := by
  rw [storeFree_idle idle, dueFlush_skipped due bad]
  exact finalFlush_unasked (by simp [stop])

/-- With no flush due and no RESET pending, a store that becomes free begins nothing. -/
theorem storeFree_quiet (undue : s.store.clock ≠ .due) (stop : s.link.stop = none) : s.storeFree = s := by
  by_cases idle : s.store.st = .idle
  · rw [storeFree_idle idle, dueFlush_undue undue, finalFlush_unasked (by simp [stop])]
  · exact storeFree_busy idle

end

theorem cmdSave_idle {s : State} (idle : s.store.st = .idle) : cmdSave [] s = okay s.startSave := if_neg (not_not.2 idle)

/-- Settles O48: SAVE, RESET and STORE? by the state of the store. -/
theorem storeCommandsAnswer : Obligations.StoreCommandsAnswer := by
  intro s alone target saveNo copy image
  have hTarget : s.store.image.flushTarget = target := flushTarget_eq _
  refine ⟨fun args some_arg => ?_, ?_, fun idle => ?_, fun busy => ?_, fun idle mark undue => ?_, fun idle mark good => ?_,
    fun busy => ⟨?_, ?_⟩⟩
  · exact exec_answers alone rfl rfl (if_neg some_arg)
  · exact exec_answers alone rfl rfl rfl
  · exact exec_writes alone rfl rfl (cmdSave_idle idle)
  · exact exec_answers alone rfl rfl (if_pos busy)
  · exact exec_writes alone rfl rfl (congrArg okay (storeFree_ends rfl idle undue mark))
  · have begins := storeFree_flushes (s := { s with link := { s.link with stop := some .waiting } }) rfl idle mark good
    rw [startFlush_eq, hTarget] at begins
    exact exec_writes alone rfl rfl (congrArg okay begins)
  · exact exec_writes alone rfl rfl (congrArg okay (storeFree_busy busy))
  · exact exec_broadcast alone rfl rfl (congrArg okay (storeFree_busy busy))
      (instant_none_congr (s := s) rfl rfl rfl alone.2)

/-! ### Writes that end -/

/-- A timed event that changes only what makes nothing due. -/
theorem whenDue_writes {s u : State} {due : Option Micros} {t : Micros} {go : State → State} (still : s.still) (hdue : due = some t)
    (acts : go (s.at t) = u) (engine : u.engine = s.engine := by rfl) (guard : u.guard = s.guard := by rfl)
    (seq : u.seq = s.seq := by rfl) : s.whenDue due go = u :=
  (whenDue_calm hdue still.1 (acts ▸ instant_none_congr engine guard seq still.2)).trans acts

theorem markWear_eq (s : State) : s.markWear = { s with store := { s.store with
    mark := true, clock := if s.store.clock = .absent then .running (s.now + 60000000) else s.store.clock } } := by
  unfold State.markWear
  cases clock : s.store.clock <;> rfl

section
variable {s : State}

theorem flushDue_of {t0 : Micros} (clock : s.store.clock = .running t0) : s.flushDue = some t0 := by
  simp [State.flushDue, clock]

theorem saveDue_of {copy : Tables} {since : Micros} (saving : s.store.st = .saving copy since) :
    s.saveDue = some (since + if copy.allFull then 400000 else 80000) := by
  simp only [State.saveDue, saving]
  rfl

theorem flushEndDue_of {toB : Bool} {copy : WearSlot} {since : Micros} (flushing : s.store.st = .flushing toB copy since) :
    s.flushEndDue = some (since + 20000) := by
  simp only [State.flushEndDue, flushing]
  rfl

/-- A read-back that fails starts a flush clock when none runs, so that none falls due. -/
theorem failed_undue (undue : s.store.clock ≠ .due) : (if s.store.clock = .absent then .running (s.now + 60000000) else s.store.clock) ≠
    FlushClock.due := by
  split
  · simp
  · exact undue

variable (undue : s.store.clock ≠ .due) (stop : s.link.stop = none)
include undue stop

section
variable {copy : Tables} {since : Micros} (saving : s.store.st = .saving copy since)
include saving

theorem saveEnds_good : s.saveEnds true = { s with
    store := { s.store with
      image := { s.store.image with table := some ⟨copy, s.store.image.saveNo⟩ }, st := .idle, cond := .good }
    notices := queueNotice s.notices ⟨.store, s.noticeTime, vWord "SAVE", vWord "OK"⟩ } := by
  simp only [State.saveEnds, saving]
  exact storeFree_quiet undue stop

theorem saveEnds_bad : s.saveEnds false = { s with
    store := { s.store with
      image := { s.store.image with table := none }, st := .idle, cond := .bad, mark := true
      clock := if s.store.clock = .absent then .running (s.now + 60000000) else s.store.clock }
    notices := queueNotice s.notices ⟨.store, s.noticeTime, vWord "SAVE", vWord "FAIL"⟩ } := by
  simp only [State.saveEnds, saving, markWear_eq]
  exact storeFree_quiet (failed_undue undue) stop

end

section
variable {toB : Bool} {copy : WearSlot} {since : Micros} (flushing : s.store.st = .flushing toB copy since)
include flushing

theorem flushEnds_good : s.flushEnds true = { s with
    store := { s.store with image := s.store.image.setSlot toB (some copy), st := .idle }
    notices := queueNotice s.notices ⟨.store, s.noticeTime, vWord "FLUSH", vWord "OK"⟩ } := by
  have link : ({ s.link with stop := none } : Link) = s.link := by rw [← stop]
  simp only [State.flushEnds, flushing, stop, reduceCtorEq, if_false, link]
  exact storeFree_quiet undue stop

theorem flushEnds_bad : s.flushEnds false = { s with
    store := { s.store with
      image := s.store.image.setSlot toB none, st := .idle, mark := true
      clock := if s.store.clock = .absent then .running (s.now + 60000000) else s.store.clock }
    notices := queueNotice s.notices ⟨.store, s.noticeTime, vWord "FLUSH", vWord "FAIL"⟩ } := by
  have link : ({ s.link with stop := none } : Link) = s.link := by rw [← stop]
  simp only [State.flushEnds, flushing, stop, reduceCtorEq, if_false, link, markWear_eq]
  exact storeFree_quiet (failed_undue undue) stop

end

end

/-- Settles O50: with no RESET pending, a store that becomes free begins a flush only when its clock is due. -/
theorem storeWritesEnd : Obligations.StoreWritesEnd := by
  intro s still stop target saveNo copy image
  have hTarget : s.store.image.flushTarget = target := flushTarget_eq _
  refine ⟨fun t0 clock idle mark good => ?_, fun t0 clock busy => ?_, fun t0 clock idle bad => ?_,
    fun copy since saving undue => ⟨?_, ?_⟩, fun toB copy since flushing undue => ⟨?_, ?_⟩⟩
  · have begins := storeFree_made (s := { s.at t0 with store := { s.store with clock := .due } }) rfl idle mark good stop
    rw [startFlush_eq, hTarget] at begins
    exact congrArg _ (whenDue_writes still (flushDue_of clock) begins)
  · have waits := storeFree_busy (s := { s.at t0 with store := { s.store with clock := .due } }) busy
    exact congrArg _ (whenDue_writes still (flushDue_of clock) waits)
  · have skips := storeFree_skipped (s := { s.at t0 with store := { s.store with clock := .due } }) rfl idle bad stop
    exact congrArg _ (whenDue_writes still (flushDue_of clock) skips)
  · exact congrArg _ (whenDue_writes still (saveDue_of saving) (saveEnds_good (s := s.at _) undue stop saving))
  · exact congrArg _ (whenDue_writes still (saveDue_of saving) (saveEnds_bad (s := s.at _) undue stop saving))
  · exact congrArg _ (whenDue_writes still (flushEndDue_of flushing) (flushEnds_good (s := s.at _) undue stop flushing))
  · exact congrArg _ (whenDue_writes still (flushEndDue_of flushing) (flushEnds_bad (s := s.at _) undue stop flushing))

/-! ### The command link -/

section
variable {s : State} (runs : s.life = .running)
include runs

theorem exec_character (c : BitVec 8) (framing : Bool) : exec (.commandPairCharacter c framing) s = .next (s.character c.toNat framing) :=
  congrArg _ (if_pos runs)

end

theorem character_other {s : State} {code : Nat} {framing : Bool} (other : ¬ (code = 13 ∧ framing = false)) :
    s.character code framing = { s with link := { s.link with receive := receiveChar code framing s.link.receive } } := if_neg other

/-- A character of a record is kept and counted. -/
theorem receiveChar_kept {code count : Nat} {kept : List (Char × Bool)} {bad : Bool} (low : 32 ≤ code) (high : code ≤ 126) (notAt : code ≠ 64)
    (room : kept.length < 95) (few : count < 95) :
    receiveChar code false (.inside kept count bad) = .inside (kept ++ [(Char.ofNat code, false)]) (count + 1) bad := by
  have notLf : code ≠ 10 := by omega
  simp [receiveChar, notAt, notLf, room, Nat.not_lt.2 low, Nat.not_lt.2 high]
  omega

/-- A line feed is disregarded. -/
theorem receiveChar_lineFeed (r : Receive) : receiveChar 10 false r = r := by
  cases r <;> rfl

theorem endRecord_outside {s : State} (outside : s.link.receive = .outside) : s.endRecord = s := by
  simp [State.endRecord, outside]

/-- Settles O51: characters by the receive state, and replies by their moments. -/
theorem linkEventsAct : Obligations.LinkEventsAct := by
  intro s runs
  refine ⟨fun outside => ?_, ?_, fun c kept count bad inside low high notAt room few => ?_, ?_, fun c framing outside notAt => ?_, ?_,
    fun alone => ?_, fun r q queued unsent => ?_, fun r q t0 queued sending empty => ?_, ?_⟩
  · exact congrArg _ ((if_pos runs).trans (endRecord_outside outside))
  · exact congrArg _ (if_pos runs)
  · have notAtCode : c.toNat ≠ 64 := fun at_ => notAt (BitVec.eq_of_toNat_eq at_)
    rw [exec_character runs, character_other (by omega), inside, receiveChar_kept low high notAtCode room few]
  · rw [exec_character runs, character_other (by decide)]
    exact congrArg (fun r => Host.Outcome.next { s with link := { s.link with receive := r } }) (receiveChar_lineFeed _)
  · have notAtCode : c.toNat ≠ 64 := fun at_ => notAt (BitVec.eq_of_toNat_eq at_)
    rw [exec_character runs]
    by_cases cr : c.toNat = 13 ∧ framing = false
    · exact congrArg _ ((if_pos cr).trans (endRecord_outside outside))
    · have stays : receiveChar c.toNat framing s.link.receive = s.link.receive := by simp [outside, receiveChar, notAtCode]
      rw [character_other cr, stays]
  · exact congrArg _ (if_pos runs)
  · exact exec_answers alone rfl rfl rfl
  · have due : s.sendDue = some (s.link.lastChar + charsTime s.straps.baud 1) := by simp [State.sendDue, queued, unsent]
    refine congrArg _ ((if_pos runs).trans ?_)
    rw [due]
    rfl
  · have due : s.sentDue = some (t0 + charsTime s.straps.baud (s.replyLength r)) := by simp [State.sentDue, queued, sending]
    refine congrArg _ ((if_pos runs).trans ?_)
    rw [due]
    refine (replyEnds_empty _ empty).trans ?_
    rw [queued]
    rfl
  · exact congrArg _ (if_pos runs)

end Sys2Proof.Machine
end
-- ==== Sys2Proof/Proofs/Load.lean ====
section
/-! PROOFS. LOAD (R25, R49, R111, R208): the tests of changed thresholds only set flags and queue notices, and each element is the one
the image defines, conditioned by what stood before. -/

namespace Sys2Proof.Machine

/-! ### The tests of changed thresholds -/

/-- An element but for its life-warned flag. -/
def Element.unwarned (x : Element) : Element := { x with wear := { x.wear with warned := false } }

theorem fields_of_unwarned {y z : Element} (h : y.unwarned = z.unwarned) :
    (y.d = z.d ∧ y.losses = z.losses ∧ y.pos = z.pos ∧ y.st = z.st) ∧
      y.wear.life = z.wear.life ∧ y.wear.hot = z.wear.hot ∧ y.wear.limit = z.wear.limit :=
  ⟨⟨congrArg (·.d) h, congrArg (·.losses) h, congrArg (·.pos) h, congrArg (·.st) h⟩,
    congrArg (·.wear.life) h, congrArg (·.wear.hot) h, congrArg (·.wear.limit) h⟩

/-- Tests of thresholds change warned flags and notices alone, and flags only of the elements tested (R107). -/
theorem lifeTests_eq (l : List Nat) (s : State) : ∃ elems notices, l.foldl State.lifeTest s = { s with elems := elems, notices := notices } ∧
    (∀ e, (tget elems e).map Element.unwarned = (tget s.elems e).map Element.unwarned) ∧
    ∀ e, e ∉ l → tget elems e = tget s.elems e := by
  induction l generalizing s with
  | nil => exact ⟨s.elems, s.notices, rfl, fun _ => rfl, fun _ _ => rfl⟩
  | cons a l ih =>
    obtain ⟨elems, notices, ends, same, others⟩ := ih (s.lifeTest a)
    rw [List.foldl_cons, ends]
    unfold State.lifeTest at same others ⊢
    split at same
    next x deft =>
      split at same
      next warns =>
        simp only [deft, if_pos warns, State.notify_elems, State.modElem_elems, tget_tmod] at same others ⊢
        refine ⟨elems, notices, rfl, fun e => (same e).trans ?_, fun e out => (others e (by simp_all)).trans ?_⟩
        · split
          · rw [Option.map_map]
            rfl
          · rfl
        · rw [if_neg (by simp_all)]
      next quiet =>
        simp only [deft, if_neg quiet] at same others ⊢
        exact ⟨elems, notices, rfl, same, fun e out => others e (by simp_all)⟩
    next undef =>
      simp only [undef] at same others ⊢
      exact ⟨elems, notices, rfl, same, fun e out => others e (by simp_all)⟩

/-! ### An element after a LOAD -/

section
variable {now : Micros} {straps : Straps} {reading : ElemDef → Reading} {x : ElemImage} {o : Element}

/-- Fresh elements and kept ones take the threshold the image gives, and kept ones the live counts (R111). -/
theorem loadElement_wear : (loadElement now straps reading (some o) x).wear = loadWear o.wear x.wear := by
  unfold loadElement
  dsimp only
  split <;> rfl

theorem loadElement_limit (old : Option Element) : (loadElement now straps reading old x).wear.limit = x.wear.limit := by
  cases old with
  | none => rfl
  | some o =>
    rw [loadElement_wear]
    rfl

/-- An element on a bank not fitted is in FAULT with position UNKNOWN (R25). -/
theorem loadElement_unfitted (old : Option Element) (out : isFitted straps x.d.bank = false) :
    (loadElement now straps reading old x).pos = none ∧ (loadElement now straps reading old x).st = .fault := by
  cases old with
  | none => simp [loadElement, loadFresh, out]
  | some o => simp [loadElement, loadKeeps, loadFresh, out]

theorem loadElement_kept (kind : o.d.kind = x.d.kind) (tech : o.d.tech = x.d.tech) (fitted : isFitted straps x.d.bank = true) :
    (loadElement now straps reading (some o) x).pos = o.pos ∧ (loadElement now straps reading (some o) x).st = o.st := by
  simp [loadElement, loadKeeps, kind, tech, fitted]

theorem loadElement_changed (other : o.d.kind ≠ x.d.kind ∨ o.d.tech ≠ x.d.tech) (fitted : isFitted straps x.d.bank = true) :
    (loadElement now straps reading (some o) x).pos = none ∧ (loadElement now straps reading (some o) x).st = .unknown := by
  have fresh : loadKeeps straps o x = false := by
    rcases other with other | other <;> simp [loadKeeps, other]
  simp [loadElement, fresh, loadFresh, fitted]

end

/-! ### The command -/

theorem cmdLoad_refused {s : State} (idle : s.store.st = .idle)
    (busy : s.seq ≠ none ∨ s.engine.waiting ≠ [] ∨ s.engine.flight ≠ none ∨ s.held ≠ [] ∨ s.store.cond ≠ .good) :
    cmdLoad [] s = nak .state s := by
  refine (if_neg (not_not.2 idle)).trans (if_pos ?_)
  rcases busy with armed | waiting | flying | held | bad
  · exact .inl (Option.isNone_eq_false_iff.2 (Option.isSome_iff_ne_none.2 armed))
  · exact .inr (.inl waiting)
  · exact .inr (.inr (.inl (Option.isSome_iff_ne_none.2 flying)))
  · exact .inr (.inr (.inr (.inl held)))
  · exact .inr (.inr (.inr (.inr bad)))

theorem cmdLoad_accepted {s : State} {t : Tables} (idle : s.store.st = .idle) (seq : s.seq = none) (waiting : s.engine.waiting = [])
    (flight : s.engine.flight = none) (held : s.held = []) (good : s.store.cond = .good) (image : s.store.image.read = some t) :
    cmdLoad [] s = okay (s.loadTables t) := by
  simp [cmdLoad, noArgs, idle, State.seqIdle, seq, waiting, flight, held, good, image]

theorem limitChanged_defined {s : State} {es : Table ElemImage} {e : Nat} (mem : e ∈ s.limitChanged es) : tget s.elems e ≠ none := by
  obtain ⟨kv, -, picked⟩ := List.mem_filterMap.1 mem
  split at picked
  next o deft =>
    split at picked
    · cases picked
    · cases picked
      simp [deft]
  · cases picked

/-- Settles O49: the tables are replaced, then the tests of changed thresholds leave all but warned flags and notices. -/
theorem loadReplacesTheTables : Obligations.LoadReplacesTheTables := by
  intro s alone
  refine ⟨fun busy => ?_, fun idle busy => ?_, fun t idle seq waiting flight held good image => ?_⟩
  · exact exec_answers alone rfl rfl (if_pos busy)
  · exact exec_answers alone rfl rfl (cmdLoad_refused idle busy)
  obtain ⟨elems, notices, ends, same, others⟩ := lifeTests_eq (s.limitChanged t.elems) (s.replaced t)
  have answer := cmdLoad_accepted idle seq waiting flight held good image
  rw [loadTables_eq, ends] at answer
  obtain ⟨-, -, carry⟩ := calm_empty alone.2 flight
  have loaded (e : Nat) : tget (s.replaced t).elems e =
      (tget t.elems e).map (loadElement s.now s.straps s.reading (tget s.elems e)) := tget_map _ _ _
  refine ⟨_, exec_leaves alone rfl rfl answer (calm_of_empty flight waiting (toSubmit_of_idle seq) carry), rfl, rfl,
    ⟨rfl, rfl, rfl, rfl, held, seq, rfl, rfl, rfl, waiting, flight, rfl, rfl, rfl⟩, tget_freshRoutes _ _, fun e undef => ?_,
    fun e x deft => ?_⟩
  · have absent := same e
    rw [loaded, undef] at absent
    exact Option.map_eq_none_iff.1 absent
  · have record := same e
    rw [loaded, deft] at record
    obtain ⟨y, found, shared⟩ := Option.map_eq_some_iff.1 record
    obtain ⟨⟨d, losses, pos, st⟩, life, hot, limit⟩ := fields_of_unwarned shared
    obtain ⟨hd, hlosses⟩ := loadElement_d s.now s.straps s.reading (tget s.elems e) x
    refine ⟨y, found, d.trans hd, losses.trans hlosses, limit.trans (loadElement_limit _), fun new => ?_, fun out => ?_, fun o old => ?_⟩
    · have untested : e ∉ s.limitChanged t.elems := fun mem => limitChanged_defined mem new
      have exact_ : some y = some (loadElement s.now s.straps s.reading none x) := by
        rw [← found, others e untested, loaded, deft, new]
        rfl
      cases exact_
      exact ⟨rfl, rfl, rfl⟩
    · obtain ⟨unknown, fault⟩ := loadElement_unfitted (now := s.now) (reading := s.reading) (tget s.elems e) out
      exact ⟨pos.trans unknown, st.trans fault⟩
    · rw [old] at pos st life hot
      rw [loadElement_wear] at life hot
      refine ⟨life, hot, fun kind tech fitted => ?_, fun other fitted => ?_⟩
      · obtain ⟨kept, same⟩ := loadElement_kept (now := s.now) (reading := s.reading) kind tech fitted
        exact ⟨pos.trans kept, st.trans same⟩
      · obtain ⟨unknown, fresh⟩ := loadElement_changed (now := s.now) (reading := s.reading) other fitted
        exact ⟨pos.trans unknown, st.trans fresh⟩

end Sys2Proof.Machine
end
-- ==== Sys2Proof/Proofs/LineEvents.lean ====
section
/-! PROOFS. Reports on sense lines and edges on trigger inputs (R19, R156), the timers of the lines (R160, R166 to R168), and the
verification of an element at its ready time (R15, R16, R63, R65). -/

namespace Sys2Proof.Machine

/-- An input event of a running controller that leaves the engine, the guard and the sequencer as they were. -/
theorem during_writes {s t u : State} {go : State → State} (still : t.still) (acts : go s = u) (life : s.life = t.life := by rfl)
    (engine : u.engine = t.engine := by rfl) (guard : u.guard = t.guard := by rfl) (seq : u.seq = t.seq := by rfl) :
    s.during go = u :=
  (during_calm (life.trans still.1) (acts ▸ instant_none_congr engine guard seq still.2)).trans acts

/-! ### Sense lines -/

theorem countReport_resting {now : Micros} {report r : Reading} {x : Element} (resting : ∀ t former, x.st ≠ .moving t former)
    (sensed : x.sense = some r) : countReport now report x = { x with counting := countFrom now r report } := by
  unfold countReport
  split
  next t former moving => exact absurd moving (resting t former)
  next sense _ => cases sense.symm.trans sensed; rfl
  next unsensed _ => cases unsensed.symm.trans sensed

/-- A new report on the lines of an element's slot. -/
theorem newReport_element {s : State} {b slot : Fin 8} {e : Nat} {x : Element} (there : s.elemAt b slot = some e)
    (deft : tget s.elems e = some x) : s.newReport b slot = s.modElem e (countReport s.now (s.reading x.d)) := by
  simp [State.newReport, there, deft]

/-- The reading of an element whose slot's lines have just changed. -/
theorem reading_changed {s : State} {b slot : Fin 8} {closed : BitVec 8} {d : ElemDef} (bank : d.bank = b) (slot_ : d.slot = slot) :
    ({ s with senseLines := s.senseLines.set (slotIndex b slot) closed } : State).reading d = readingOf d.kind d.tech closed := by
  subst bank slot_
  simp [State.reading, ElemDef.slotIndex]

/-! ### Trigger inputs -/

theorem advanceEvent_idle {s : State} (src : Source) (idle : s.seq = none) : s.advanceEvent src = s := by
  simp [State.advanceEvent, idle]

/-- A filtered change of an input that is no gate, with nothing armed. -/
theorem filteredChange_idle {s : State} {i : Fin 4} (high : Bool) (idle : s.seq = none) (noGate : s.settings.pace.gate ≠ some i) :
    s.filteredChange i high = s.setIn i { s.timers.ins[i] with level := high, qual := none } := by
  have unchanged : (s.setIn i { s.timers.ins[i] with level := high, qual := none }).advanceEvent (.ti i) =
      s.setIn i { s.timers.ins[i] with level := high, qual := none } := advanceEvent_idle _ idle
  unfold State.filteredChange
  dsimp only
  rw [unchanged, ite_self]
  exact if_neg noGate

/-- Writing an input twice leaves the second value. -/
theorem setIn_setIn (s : State) (i : Fin 4) (x y : TrigIn) : (s.setIn i x).setIn i y = s.setIn i y := by
  simp [State.setIn]

/-- Settles O53, by what a report does to an element and a raw level to an input. -/
theorem reportsAndEdgesAreTimed : Obligations.ReportsAndEdgesAreTimed := by
  intro s still
  refine ⟨fun b slot closed e x r changed there deft bank slot_ resting sensed => ⟨?_, ?_⟩, ?_⟩
  · have report := newReport_element (s := { s with senseLines := s.senseLines.set (slotIndex b slot) closed }) there deft
    rw [reading_changed bank slot_] at report
    exact congrArg _ ((if_neg changed).trans (during_writes still report))
  · exact countReport_resting resting sensed
  · intro i high x changed idle noGate
    have row : exec (.triggerInputChange i high) s =
        .next ((s.setIn i { x with raw := high }).during (fun t => t.rawChange i high)) := congrArg _ (if_neg changed)
    have raw : (s.setIn i { x with raw := high }).timers.ins[i] = { x with raw := high } := State.setIn_self _ _ _
    refine ⟨fun same => ?_, fun differs unfiltered => ?_, fun differs filtered => ?_⟩
    · have acts : (s.setIn i { x with raw := high }).rawChange i high = s.setIn i ⟨high, x.level, none⟩ := by
        simp only [State.rawChange, raw, setIn_setIn]
        exact if_pos same
      exact row.trans (congrArg _ (during_writes still acts))
    · have acts : (s.setIn i { x with raw := high }).rawChange i high = s.setIn i ⟨high, high, none⟩ := by
        simp only [State.rawChange, raw, setIn_setIn]
        refine (if_neg differs).trans ((if_pos unfiltered).trans ?_)
        rw [filteredChange_idle high (s := s.setIn i _) idle noGate, raw, setIn_setIn]
      exact row.trans (congrArg _ (during_writes still acts))
    · have acts : (s.setIn i { x with raw := high }).rawChange i high =
          s.setIn i ⟨high, x.level, some (s.now + qualTime s.settings.inputs[i].filter)⟩ := by
        simp only [State.rawChange, raw, setIn_setIn]
        exact (if_neg differs).trans (if_neg filtered)
      have time : qualTime s.settings.inputs[i].filter = if s.settings.inputs[i].filter = .narrow then 2 else 20 := by
        cases kind : s.settings.inputs[i].filter
        · exact absurd kind filtered
        · rfl
        · rfl
      rw [time] at acts
      exact row.trans (congrArg _ (during_writes still acts))

/-! ### The timers of the lines -/

/-- In HALTED every advance event is disregarded (R139). -/
theorem advanceEvent_inHalted {s : State} {r : Run} {p : ResumePoint} (src : Source) (armed : s.seq = some r) (mode : r.mode = .halted p) :
    s.advanceEvent src = s := by
  simp [State.advanceEvent, armed, mode]

theorem paceExpires_inHalted {s : State} {r : Run} {p : ResumePoint} (t : Micros) (armed : s.seq = some r) (mode : r.mode = .halted p) :
    s.paceExpires t = { s with timers := { s.timers with
      pace := if s.settings.pace.mode = .retrig then { s.timers.pace with phase := .ready }
        else reloadPace t s.settings.pace.count s.timers.pace } } :=
  advanceEvent_inHalted .pace armed mode

/-- Settles O58, event by event. -/
theorem lineTimersAct : Obligations.LineTimersAct := by
  intro s still
  refine ⟨?_, ?_, fun o t0 pulse => ?_⟩
  · intro i t0 x qualifies idle noGate
    exact congrArg _ (whenDue_writes still qualifies (filteredChange_idle (s := s.at t0) _ idle noGate))
  · intro r p t0 armed mode counting count
    have due : s.paceDue = some t0 := by simp [State.paceDue, counting]
    refine ⟨fun kept => congrArg _ (whenDue_writes still due ?_), fun retrig => congrArg _ (whenDue_writes still due ?_)⟩
    · rw [due, Option.getD_some, paceExpires_inHalted (s := s.at t0) t0 armed mode, State.at_settings, if_neg kept]
      rfl
    · rw [due, Option.getD_some, paceExpires_inHalted (s := s.at t0) t0 armed mode, State.at_settings, if_pos retrig]
      rfl
  · have due : s.pulseDue o = some t0 := by simp [State.pulseDue, pulse]
    exact congrArg _ (whenDue_writes still due rfl)

/-! ### Verification -/

section
variable {s : State} {f : Flight} {m m2 : Move} (flying : s.engine.flight = some f) (moves : f.moves = [m, m2])
  (other : m2.elem ≠ m.elem)
include flying moves other

/-- Changing the entry of the first of two elements of the move set. -/
theorem modFlight_setMove_first (g : Move → Move) :
    s.modFlight (fun f => { f with moves := setMove m.elem g f.moves }) =
      { s with engine := { s.engine with flight := some { f with moves := [g m, m2] } } } := by
  simp [State.modFlight, State.setFlight, flying, moves, setMove, other]

theorem resolve_first :
    s.resolve m.elem = { s with engine := { s.engine with flight := some { f with moves := [{ m with prog := .resolved }, m2] } } } :=
  modFlight_setMove_first flying moves other _

end

section
variable {s : State} {f : Flight} {m : Move} {ms : List Move} (flying : s.engine.flight = some f) (moves : f.moves = m :: ms)
  {retry : Bool} {t : Micros} (settling : m.prog = .settling retry t)
include flying moves settling

theorem readyDue_first : s.readyDue m.elem = some t := by
  simp [State.readyDue, State.moveOf, flying, moves, settling]

theorem readyNow_first : s.readyNow m.elem = s.verify m.elem m.target retry := by
  simp [State.readyNow, State.moveOf, flying, moves, settling]

end

section
variable {s : State} {e target : Nat} {x : Element} (deft : tget s.elems e = some x)
include deft

theorem verify_unsensed (retry : Bool) (unsensed : x.sense = none) :
    s.verify e target retry = (s.modElem e (arrive target none)).resolve e := by
  simp [State.verify, deft, unsensed]

variable {r : Reading} (sensed : x.sense = some r)
include sensed

theorem verify_matches (retry : Bool) (reads : s.reading x.d = .pos target) :
    s.verify e target retry = (s.modElem e (arrive target (some (.pos target)))).resolve e := by
  simp [State.verify, deft, sensed, reads]

theorem verify_retries (differs : s.reading x.d ≠ .pos target) :
    s.verify e target false =
      s.modFlight (fun f => { f with moves := setMove e (fun m => { m with prog := .retryDue s.now }) f.moves }) := by
  simp [State.verify, deft, sensed, differs]

theorem verify_faults (differs : s.reading x.d ≠ .pos target) :
    s.verify e target true = (((s.modElem e (enterFault (s.reading x.d))).notify .efault (vElem e)
      (vJoin ':' [vNum target, vReading (s.reading x.d)])).breakClaims .efault e).resolve e := by
  simp [State.verify, deft, sensed, differs]

end

/-- An element no route claims breaks none. -/
theorem breakClaims_unclaimed {s : State} {e : Nat} (c : Cause) (unclaimed : s.claims e = []) : s.breakClaims c e = s := by
  simp [State.breakClaims, unclaimed]

/-- Settles O56, by the branches of the verification. -/
theorem elementsAreVerified : Obligations.ElementsAreVerified := by
  intro s f m m2 x retry t0 runs flying phase moves other open_ settling deft unclaimed t flight
  have open2 : m2.isResolved = false := by cases prog : m2.prog <;> simp_all [Move.isResolved]
  have row (p : Progress) {u : State} (acts : t.verify m.elem m.target retry = u) (engine : u.engine = flight p) :
      exec (.elementReady m.elem) s = .next u := by
    have ready : t.readyNow m.elem = u := (readyNow_first (s := t) flying moves settling).trans acts
    refine congrArg _ ((whenDue_calm (readyDue_first flying moves settling) runs ?_).trans ready)
    exact calm_of_moving (f := { f with moves := [{ m with prog := p }, m2] }) (ready ▸ congrArg Engine.flight engine) phase
      (by simp [open2])
  refine ⟨fun r sensed reads => row .resolved ?_ rfl, fun unsensed => row .resolved ?_ rfl,
    fun r sensed differs first => row (.retryDue t.now) ?_ rfl, fun r sensed differs second => row .resolved ?_ rfl⟩
  · exact (verify_matches (s := t) deft sensed retry reads).trans (resolve_first (s := t.modElem _ _) flying moves other)
  · exact (verify_unsensed (s := t) deft retry unsensed).trans (resolve_first (s := t.modElem _ _) flying moves other)
  · subst first
    exact (verify_retries (s := t) deft sensed differs).trans (modFlight_setMove_first (s := t) flying moves other _)
  · subst second
    have unbroken := breakClaims_unclaimed (s := (t.modElem m.elem (enterFault (t.reading x.d))).notify .efault (vElem m.elem)
      (vJoin ':' [vNum m.target, vReading (t.reading x.d)])) .efault unclaimed
    rw [verify_faults (s := t) deft sensed differs, unbroken]
    exact resolve_first (s := (t.modElem _ _).notify _ _ _) flying moves other

end Sys2Proof.Machine
end
-- ==== Sys2Proof/Proofs/Waves.lean ====
section
/-! PROOFS. Waves and retries (R59, R60, R64, R102, R106): what a wave writes, and what it leaves of the other banks. -/

namespace Sys2Proof.Machine

/-! ### One pulse -/

/-- One more pulse on an element's life count (R106). -/
def countLife (y : Element) : Element := { y with wear := { y.wear with life := y.wear.life + 1 } }

/-- An element whose next pulse is counted and warns of nothing. -/
def State.wearable (s : State) (e : Nat) : Prop := ∃ x, tget s.elems e = some x ∧ x.wear.life < 99999999 ∧ x.wear.limit = 0

theorem markWear_markWear (s : State) : s.markWear.markWear = s.markWear := by
  rw [markWear_eq s.markWear, markWear_eq s]
  cases clock : s.store.clock <;> simp

/-- What leaves the store and the clock alone may come before or after the mark. -/
theorem markWear_congr {s t : State} (same : s.markWear = t.markWear) (elems : Table Element) (engine : Engine) :
    ({ s with elems := elems, engine := engine } : State).markWear = { t with elems := elems, engine := engine }.markWear := by
  have commutes (u : State) : ({ u with elems := elems, engine := engine } : State).markWear =
      { u.markWear with elems := elems, engine := engine } := by
    rw [markWear_eq, markWear_eq]
  rw [commutes, commutes, same]

theorem countPulse_eq {s : State} {e : Nat} (wears : s.wearable e) : s.countPulse e = (s.modElem e countLife).markWear := by
  obtain ⟨x, deft, young, unlimited⟩ := wears
  have counted : tget ((s.modElem e countLife).markWear).elems e = some (countLife x) := by
    rw [markWear_eq]
    exact tget_tmod_self deft
  unfold State.countPulse
  simp only [deft]
  exact (if_pos young).trans (lifeTest_below counted (.inl unlimited))

theorem driveElem_eq {s : State} {e : Nat} {x : Element} (v : Tech → SlotDrive) (deft : tget s.elems e = some x) :
    s.driveElem e v = s.setDrive x.d (v x.d.tech) := by
  simp [State.driveElem, deft]

/-- A plan in flight is changed before or after the mark. -/
theorem modFlight_markWear (s : State) (g : Flight → Flight) : s.markWear.modFlight g = (s.modFlight g).markWear := by
  rw [markWear_eq, markWear_eq]
  cases flying : s.engine.flight <;> simp [State.modFlight, State.setFlight, flying]

theorem modFlight_eq {s : State} {f : Flight} (g : Flight → Flight) (flying : s.engine.flight = some f) :
    s.modFlight g = s.setFlight (g f) := by
  simp [State.modFlight, flying]

/-! ### The members of a wave -/

/-- The lines of a wave's members while it runs (R60). -/
def pulseLines (es : Table Element) (ms : List Move) (lines : Vector SlotDrive 64) : Vector SlotDrive 64 :=
  ms.foldl (fun lines m =>
    match tget es m.elem with
    | some x => lines.set x.d.slotIndex (pulseDrive x.d.tech m.target)
    | none => lines) lines

/-- The life counts after a wave's members are pulsed. -/
def countLives (ms : List Move) (es : Table Element) : Table Element :=
  es.map (fun kv => if ms.any (fun m => m.elem = kv.1) then (kv.1, countLife kv.2) else kv)

/-- The move set after a wave's members are pulsed. -/
def beginPulses (retry : Bool) (ms moves : List Move) : List Move :=
  moves.map (fun m => if ms.any (fun n => n.elem = m.elem) then { m with prog := .pulsing retry, charged := false } else m)

/-- A wave's members are driven, counted and pulsed. -/
def State.pulsed (s : State) (f : Flight) (retry : Bool) (ms : List Move) : State :=
  { s with
    elems := countLives ms s.elems
    engine := { s.engine with
      drive := pulseLines s.elems ms s.engine.drive
      flight := some { f with moves := beginPulses retry ms f.moves } } }

theorem countLives_single (m : Move) (es : Table Element) : countLives [m] es = tmod es m.elem countLife := by
  simp [countLives, tmod, eq_comm]

theorem beginPulses_single (retry : Bool) (m : Move) (moves : List Move) :
    beginPulses retry [m] moves = setMove m.elem (fun x => { x with prog := .pulsing retry, charged := false }) moves := by
  simp [beginPulses, setMove, eq_comm]

theorem tget_countLives (ms : List Move) (es : Table Element) (e : Nat) :
    tget (countLives ms es) e = (tget es e).map (fun x => if ms.any (fun m => m.elem = e) then countLife x else x) := by
  have form : countLives ms es = es.map (fun kv => (kv.1, if ms.any (fun m => m.elem = kv.1) then countLife kv.2 else kv.2)) := by
    refine List.map_congr_left fun kv _ => ?_
    split <;> rfl
  rw [form, tget_map]

/-- Counting pulses changes no element's definition. -/
theorem tget_countLives_d (ms : List Move) (es : Table Element) (e : Nat) :
    (tget (countLives ms es) e).map (·.d) = (tget es e).map (·.d) := by
  rw [tget_countLives]
  cases tget es e with
  | none => rfl
  | some x =>
    simp only [Option.map_some]
    split <;> rfl

theorem pulseLines_countLives (ns ms : List Move) (es : Table Element) (lines : Vector SlotDrive 64) :
    pulseLines (countLives ns es) ms lines = pulseLines es ms lines := by
  refine List.foldl_ext _ _ _ fun lines m _ => ?_
  have same := tget_countLives_d ns es m.elem
  cases here : tget es m.elem with
  | none =>
    rw [here] at same
    simp [Option.map_eq_none_iff.mp same]
  | some x =>
    rw [here] at same
    obtain ⟨y, found, d⟩ := Option.map_eq_some_iff.mp same
    simp [found, d]

theorem countLives_cons (m : Move) (ms : List Move) (es : Table Element) (apart : ∀ n ∈ ms, n.elem ≠ m.elem) :
    countLives ms (countLives [m] es) = countLives (m :: ms) es := by
  simp only [countLives, List.map_map]
  refine List.map_congr_left fun kv _ => ?_
  by_cases here : m.elem = kv.1
  · simp only [List.any_cons, List.any_nil, here, decide_true, Bool.true_or, if_true, Function.comp, List.any_eq_true, decide_eq_true_eq]
    exact if_neg fun ⟨n, mem, same⟩ => apart n mem (same.trans here.symm)
  · simp [here]

theorem beginPulses_cons (retry : Bool) (m : Move) (ms moves : List Move) :
    beginPulses retry ms (beginPulses retry [m] moves) = beginPulses retry (m :: ms) moves := by
  simp only [beginPulses, List.map_map]
  refine List.map_congr_left fun n _ => ?_
  by_cases here : m.elem = n.elem
  · simp [here]
  · simp [here]

theorem pulsed_nil {s : State} {f : Flight} (retry : Bool) (flying : s.engine.flight = some f) : s.pulsed f retry [] = s := by
  simp [State.pulsed, countLives, pulseLines, beginPulses, ← flying]

theorem pulsed_cons (s : State) (f : Flight) (retry : Bool) (m : Move) (ms : List Move) (apart : ∀ n ∈ ms, n.elem ≠ m.elem) :
    (s.pulsed f retry [m]).pulsed { f with moves := beginPulses retry [m] f.moves } retry ms = s.pulsed f retry (m :: ms) := by
  simp only [State.pulsed, countLives_cons m ms _ apart, pulseLines_countLives, beginPulses_cons]
  rfl

/-- The pulse of one member. -/
theorem pulseMember_eq {s : State} {f : Flight} {m : Move} (retry : Bool) (flying : s.engine.flight = some f)
    (wears : s.wearable m.elem) : pulseMember retry s m = (s.pulsed f retry [m]).markWear := by
  obtain ⟨x, deft, _⟩ := id wears
  have driven := driveElem_eq (fun t => pulseDrive t m.target) deft
  have counted := countPulse_eq (s := s.setDrive x.d (pulseDrive x.d.tech m.target)) wears
  unfold pulseMember
  rw [driven, counted, modFlight_markWear, modFlight_eq _ (by exact flying), State.pulsed, countLives_single, beginPulses_single]
  simp [State.modElem, State.setDrive, State.setFlight, pulseLines, deft]

theorem wearable_pulsed {s : State} {f : Flight} {retry : Bool} {m : Move} {e : Nat} (other : e ≠ m.elem) (wears : s.wearable e) :
    (s.pulsed f retry [m]).wearable e := by
  obtain ⟨x, deft, worn⟩ := wears
  refine ⟨x, ?_, worn⟩
  exact (congrArg (fun es => tget es e) (countLives_single m s.elems)).trans ((tget_tmod _ _ _ _).trans ((if_neg other).trans deft))

/-- The pulses of any number of members, one per element, behind the mark. -/
theorem pulseMembers_marked (retry : Bool) (ms : List Move) (s : State) (f : Flight) (flying : s.engine.flight = some f)
    (distinct : ms.Pairwise (fun m n => m.elem ≠ n.elem)) (wears : ∀ m ∈ ms, s.wearable m.elem) :
    ms.foldl (pulseMember retry) s.markWear = (s.pulsed f retry ms).markWear := by
  induction ms generalizing s f with
  | nil => rw [List.foldl_nil, pulsed_nil retry flying]
  | cons m ms ih =>
    obtain ⟨apart, distinct⟩ := List.pairwise_cons.mp distinct
    have first : pulseMember retry s.markWear m = (s.pulsed f retry [m]).markWear := by
      have marked : s.markWear = { s with store := s.markWear.store } := by rw [markWear_eq]
      have pulse := pulseMember_eq (s := s.markWear) (f := f) (m := m) retry (by rw [marked]; exact flying)
        (by rw [marked]; exact wears m List.mem_cons_self)
      rw [pulse]
      have again := markWear_congr (markWear_markWear s) (s.pulsed f retry [m]).elems (s.pulsed f retry [m]).engine
      rw [State.pulsed, marked]
      rw [marked] at again
      exact again
    rw [List.foldl_cons, first, ih _ _ rfl distinct fun n mem => wearable_pulsed (apart n mem).symm (wears n (List.mem_cons_of_mem _ mem)),
      pulsed_cons _ _ _ _ _ fun n mem => (apart n mem).symm]

/-- The pulses of a wave's members. -/
theorem pulseMembers_eq {retry : Bool} {ms : List Move} {s : State} {f : Flight} (flying : s.engine.flight = some f)
    (some_ : ms ≠ []) (distinct : ms.Pairwise (fun m n => m.elem ≠ n.elem)) (wears : ∀ m ∈ ms, s.wearable m.elem) :
    ms.foldl (pulseMember retry) s = (s.pulsed f retry ms).markWear := by
  obtain ⟨m, ms, rfl⟩ := List.exists_cons_of_ne_nil some_
  obtain ⟨apart, distinct⟩ := List.pairwise_cons.mp distinct
  rw [List.foldl_cons, pulseMember_eq retry flying (wears m List.mem_cons_self),
    pulseMembers_marked retry ms _ _ rfl distinct fun n mem => wearable_pulsed (apart n mem).symm (wears n (List.mem_cons_of_mem _ mem)),
    pulsed_cons _ _ _ _ _ fun n mem => (apart n mem).symm]

/-- A wave of given members runs: they are pulsed, and it lasts the longest pulse width among them (R60). -/
def State.waveRuns (s : State) (f : Flight) (b : Fin 8) (retry : Bool) (ms : List Move) : State :=
  ((s.pulsed f retry ms).setFlight { f with
    moves := beginPulses retry ms f.moves
    banks := f.banks.set b { f.banks[b] with
      endsAt := some (s.now + (ms.map (fun m => s.settings.width (s.techOf m.elem))).foldl max 0) } }).markWear

theorem runWave_eq {retry : Bool} {ms : List Move} {s : State} {f : Flight} (b : Fin 8) (flying : s.engine.flight = some f)
    (some_ : ms ≠ []) (distinct : ms.Pairwise (fun m n => m.elem ≠ n.elem)) (wears : ∀ m ∈ ms, s.wearable m.elem) :
    s.runWave b retry ms = s.waveRuns f b retry ms := by
  unfold State.runWave State.waveRuns
  rw [pulseMembers_eq flying some_ distinct wears, modFlight_markWear, modFlight_eq _ rfl]

/-- A started wave keeps its plan in MOVE. -/
theorem beginPulses_moving {retry : Bool} {ms moves : List Move} {m : Move} (member : m ∈ ms) (moves_ : m ∈ moves) :
    (beginPulses retry ms moves).all Move.isResolved = false := by
  refine List.all_eq_false.mpr ⟨_, List.mem_map_of_mem moves_, ?_⟩
  rw [if_pos (List.any_eq_true.mpr ⟨m, member, by simp⟩)]
  simp [Move.isResolved]

/-! ### The obligation on waves -/

/-- The coil of an EML element, and the pull-in or the release of an EMF one. -/
theorem pulseDrive_em {t : Tech} (target : Nat) (em : t ≠ .ss) :
    pulseDrive t target = if t = .eml then .coil target else if target = 2 then .pullIn else .off := by
  cases t with
  | eml => rfl
  | emf => rfl
  | ss => exact absurd rfl em

theorem emInBank_tech {s : State} {b : Fin 8} {e : Nat} {x : Element} (here : s.emInBank b e = true) (deft : tget s.elems e = some x) :
    x.d.tech ≠ .ss ∧ x.d.bank = b := by
  simpa [State.emInBank, deft] using here

/-- A move set in ascending order names each element once. -/
theorem distinct_of_ascending {ms ns : List Move} (ascending : ns.Pairwise (fun m n => m.elem < n.elem)) (sub : ms.Sublist ns) :
    ms.Pairwise (fun m n => m.elem ≠ n.elem) := (ascending.sublist sub).imp Nat.ne_of_lt

/-- A wave starts (R59): any members of the plan in MOVE, at a moment that is due. -/
theorem whenDue_runWave {s : State} {f : Flight} {b : Fin 8} {retry : Bool} {ms : List Move} {due : Option Micros} {t0 : Micros}
    {go : State → State} (runs : s.life = .running) (flying : s.engine.flight = some f) (phase : f.phase = .move) (hdue : due = some t0)
    (acts : go (s.at t0) = (s.at t0).runWave b retry ms) (sub : ms.Sublist f.moves) (some_ : ms ≠ [])
    (distinct : ms.Pairwise (fun m n => m.elem ≠ n.elem)) (wears : ∀ m ∈ ms, s.wearable m.elem) :
    s.whenDue due go = (s.at t0).waveRuns f b retry ms := by
  have ran := acts.trans (runWave_eq (s := s.at t0) b flying some_ distinct wears)
  refine (whenDue_calm hdue runs ?_).trans ran
  obtain ⟨m, ms, rfl⟩ := List.exists_cons_of_ne_nil some_
  rw [ran, State.waveRuns, markWear_eq]
  exact calm_of_moving rfl phase (beginPulses_moving List.mem_cons_self (sub.subset List.mem_cons_self))

section
variable {s : State} {f : Flight} {b : Fin 8} (flying : s.engine.flight = some f) (phase : f.phase = .move)
  (unpulsed : f.banks[b].endsAt = none) (open_ : f.holdExpired = false) (driven : s.supply.st ≠ .cut)
include phase unpulsed open_ driven

theorem bankFree_of : s.bankFree f b = true := by
  have idle : f.banks[(b : Nat)].endsAt = none := unpulsed
  simp [State.bankFree, phase, open_, driven, idle]

include flying

/-- A bank with an unpulsed element starts its next wave when it is free (R59). -/
theorem waveDue_of {m : Move} (member : m ∈ f.moves) (waits : (m.isWaiting && s.emInBank b m.elem) = true) (size : s.effSize b ≠ 0) :
    s.waveDue b = some f.banks[b].freeAt := by
  have waiting : s.bankWaiting f b = true := List.any_eq_true.mpr ⟨m, member, waits⟩
  simp [State.waveDue, flying, bankFree_of phase unpulsed open_ driven, waiting, size]

end

/-- The lines of a wave of electromechanical elements. -/
theorem pulseLines_em {es : Table Element} {ms : List Move} (lines : Vector SlotDrive 64)
    (em : ∀ m ∈ ms, ∀ x, tget es m.elem = some x → x.d.tech ≠ .ss) :
    pulseLines es ms lines = ms.foldl (fun lines m =>
      match tget es m.elem with
      | some x => lines.set x.d.slotIndex (if x.d.tech = .eml then .coil m.target else if m.target = 2 then .pullIn else .off)
      | none => lines) lines := by
  refine List.foldl_ext _ _ _ fun lines m mem => ?_
  cases here : tget es m.elem with
  | none => rfl
  | some x => simp only [pulseDrive_em m.target (em m mem x here)]

/-- The pulse width of an electromechanical element. -/
theorem width_em {c : Settings} {t : Tech} (em : t ≠ .ss) : c.width t = if t = .emf then c.pulseEmf else c.pulseEml := by
  cases t with
  | eml => rfl
  | emf => rfl
  | ss => exact absurd rfl em

/-- The end of one member's pulse in a plan that is not cut (R60, R61). -/
theorem endMember_eq {s : State} {f : Flight} {b : Fin 8} {m : Move} {retry : Bool} {x : Element} (flying : s.engine.flight = some f)
    (uncut : f.phase ≠ .cut) (pulsing : m.prog = .pulsing retry) (deft : tget s.elems m.elem = some x)
    (here : s.emInBank b m.elem = true) :
    endMember b s m = (s.setDrive x.d (restDrive x.d.tech m.target)).setFlight { f with
      moves := setMove m.elem (fun y => { y with prog := .settling retry (s.now + s.settings.settleTime x.d.tech m.profile) })
        f.moves } := by
  have driven := driveElem_eq (fun t => restDrive t m.target) deft
  have flies : (s.setDrive x.d (restDrive x.d.tech m.target)).engine.flight = some f := flying
  have there : tget (s.setDrive x.d (restDrive x.d.tech m.target)).elems m.elem = some x := deft
  simp only [endMember, pulsing, here, if_true, driven, flies, there, if_neg uncut, modFlight_eq _ flies]

/-- An element whose settle interval has just begun is not ready. -/
theorem verifyReadyNow_unready {s : State} {f : Flight} {e : Nat} {m : Move} {retry : Bool} {t : Micros}
    (flying : s.engine.flight = some f) (entry : f.moves.find? (fun m => m.elem = e) = some m) (settling : m.prog = .settling retry t)
    (later : s.now < t) : s.verifyReadyNow [e] = s := by
  simp [State.verifyReadyNow, flying, entry, settling, Nat.not_le.mpr later]

/-- The wave of one EML element. -/
theorem waveRuns_eml {s : State} {m : Move} {x : Element} (f : Flight) (b : Fin 8) (retry : Bool)
    (deft : tget s.elems m.elem = some x) (eml : x.d.tech = .eml) :
    s.waveRuns f b retry [m] = ({ s with
      elems := tmod s.elems m.elem countLife
      engine := { s.engine with
        drive := s.engine.drive.set x.d.slotIndex (.coil m.target)
        flight := some { f with
          moves := setMove m.elem (fun m => { m with prog := .pulsing retry, charged := false }) f.moves
          banks := f.banks.set b { f.banks[b] with endsAt := some (s.now + s.settings.pulseEml) } } } } : State).markWear := by
  have tech : s.techOf m.elem = .eml := by simp [State.techOf, deft, eml]
  simp [State.waveRuns, State.setFlight, State.pulsed, countLives_single, beginPulses_single, pulseLines, deft, eml, pulseDrive, tech,
    Settings.width]

/-- The wave of the one EML element of a move set. -/
theorem waveRuns_single {s : State} {f : Flight} {m : Move} {x : Element} (b : Fin 8) (retry : Bool) (moves : f.moves = [m])
    (deft : tget s.elems m.elem = some x) (eml : x.d.tech = .eml) :
    s.waveRuns f b retry [m] = ({ s with
      elems := tmod s.elems m.elem countLife
      engine := { s.engine with
        drive := s.engine.drive.set x.d.slotIndex (.coil m.target)
        flight := some { f with
          moves := [{ m with prog := .pulsing retry, charged := false }]
          banks := f.banks.set b { f.banks[b] with endsAt := some (s.now + s.settings.pulseEml) } } } } : State).markWear := by
  rw [waveRuns_eml f b retry deft eml]
  simp [moves, setMove]

section
variable {s : State} {f : Flight} {b : Fin 8} {m : Move} {x : Element} (runs : s.life = .running) (flying : s.engine.flight = some f)
  (phase : f.phase = .move) (moves : f.moves = [m]) (deft : tget s.elems m.elem = some x) (eml : x.d.tech = .eml) (bank : x.d.bank = b)
include deft eml bank

theorem emInBank_of : s.emInBank b m.elem = true := by
  simp [State.emInBank, deft, eml, bank]

include flying moves

theorem startWave_single (waiting : m.prog = .waiting) (sized : 1 ≤ s.effSize b) : s.startWave b = s.runWave b false [m] := by
  have member : f.moves.filter (fun m => m.isWaiting && s.emInBank b m.elem) = [m] := by
    simp [moves, Move.isWaiting, waiting, emInBank_of deft eml bank]
  simp only [State.startWave, flying, member, List.take_of_length_le (l := [m]) sized]

theorem startRetry_single {since : Micros} (due : m.prog = .retryDue since) : s.startRetry b = s.runWave b true [m] := by
  have retry : s.bankRetry f b = some m.elem := by
    simp [State.bankRetry, moves, due, emInBank_of deft eml bank]
  simp [State.startRetry, flying, retry, moves]

theorem retryDueAt_single {since : Micros} (due : m.prog = .retryDue since) (free : s.bankFree f b = true) :
    s.retryDueAt b = some f.banks[b].freeAt := by
  have retry : s.bankRetry f b = some m.elem := by
    simp [State.bankRetry, moves, due, emInBank_of deft eml bank]
  simp [State.retryDueAt, flying, free, retry, State.bankWaiting, moves, due, Move.isWaiting]

include runs phase

/-- The wave of one EML element ends (R60). -/
theorem waveEnd_single {retry : Bool} {t0 : Micros} (pulsing : m.prog = .pulsing retry) (ends : f.banks[b].endsAt = some t0)
    (settles : 0 < s.settings.settleTime .eml m.profile) :
    s.whenDue (s.waveEndsAt b) (fun t => t.endWave b) = { s.at t0 with engine := { s.engine with
      drive := s.engine.drive.set x.d.slotIndex .off
      flight := some { f with
        moves := [{ m with prog := .settling retry ((s.at t0).now + s.settings.settleTime .eml m.profile) }]
        banks := f.banks.set b ⟨none, (s.at t0).now + 2000⟩ } } } := by
  have here := emInBank_of deft eml bank
  have due : s.waveEndsAt b = some t0 := by simpa [State.waveEndsAt, flying] using ends
  have ended := endMember_eq (s := s.at t0) flying (by simp [phase]) pulsing deft here
  have acts : (s.at t0).endWave b = { s.at t0 with engine := { s.engine with
      drive := s.engine.drive.set x.d.slotIndex .off
      flight := some { f with
        moves := [{ m with prog := .settling retry ((s.at t0).now + s.settings.settleTime .eml m.profile) }]
        banks := f.banks.set b ⟨none, (s.at t0).now + 2000⟩ } } } := by
    simp only [State.endWave, State.at_engine, flying, moves, List.foldl_cons, List.foldl_nil, ended]
    rw [modFlight_eq _ rfl]
    have member : [m].filter (fun m => m.isPulsing && (s.at t0).emInBank b m.elem) = [m] := by
      have inBank : (s.at t0).emInBank b m.elem = true := here
      simp [Move.isPulsing, pulsing, inBank]
    rw [member]
    refine (verifyReadyNow_unready (t := (s.at t0).now + s.settings.settleTime x.d.tech m.profile) (retry := retry) rfl
      (m := { m with prog := .settling retry _ }) ?_ rfl ?_).trans ?_
    · simp [setMove]
    · exact Nat.lt_add_of_pos_right (eml ▸ settles)
    · simp [State.setFlight, State.setDrive, setMove, eml, restDrive, Config.waveGap]
  refine (whenDue_calm due runs ?_).trans acts
  rw [acts]
  exact calm_of_moving rfl phase rfl

end

/-- Settles O55: a wave or a retry of one element is a wave of members, and a wave of members is `runWave_eq`. -/
theorem wavesRun : Obligations.WavesRun := by
  refine ⟨fun s f m x b runs flying phase moves deft eml bank => ⟨fun unpulsed open_ normal sized young unlimited => ?_,
    fun retry t0 pulsing ends settles => congrArg _ (waveEnd_single runs flying phase moves deft eml bank pulsing ends settles)⟩, ?_⟩
  · have here := emInBank_of deft eml bank
    have driven : s.supply.st ≠ .cut := by simp [normal]
    have sub : [m].Sublist f.moves := moves ▸ List.Sublist.refl _
    have wears : ∀ n ∈ [m], s.wearable n.elem := by simpa using ⟨x, deft, young, unlimited⟩
    have run (retry : Bool) {due : Option Micros} {go : State → State} (hdue : due = some f.banks[b].freeAt)
        (acts : go (s.at f.banks[b].freeAt) = (s.at f.banks[b].freeAt).runWave b retry [m]) :=
      whenDue_runWave runs flying phase hdue acts sub (by simp) (List.pairwise_singleton _ _) wears
    refine ⟨fun waiting => congrArg _ ((run false ?_ ?_).trans (waveRuns_single (s := s.at _) b false moves deft eml)),
      fun since due => congrArg _ ((run true ?_ ?_).trans (waveRuns_single (s := s.at _) b true moves deft eml))⟩
    · exact waveDue_of flying phase unpulsed open_ driven (m := m) (by simp [moves]) (by simp [Move.isWaiting, waiting, here])
        (by simpa [State.effSize, normal] using Nat.ne_of_gt sized)
    · exact startWave_single (s := s.at _) flying moves deft eml bank waiting (by simpa [State.effSize, normal] using sized)
    · exact retryDueAt_single flying moves deft eml bank due (bankFree_of phase unpulsed open_ driven)
    · exact startRetry_single (s := s.at _) flying moves deft eml bank due
  · intro s f b runs flying phase ascending unpulsed open_ driven size wave inWave width t some_ wears
    have sub : wave.Sublist f.moves := (List.take_sublist _ _).trans List.filter_sublist
    have waits (m : Move) (mem : m ∈ wave) : (m.isWaiting && s.emInBank b m.elem) = true :=
      (List.mem_filter.mp (List.mem_of_mem_take mem)).2
    have em (m : Move) (mem : m ∈ wave) (x : Element) (deft : tget s.elems m.elem = some x) : x.d.tech ≠ .ss :=
      (emInBank_tech (Bool.and_eq_true_iff.mp (waits m mem)).2 deft).1
    have widths : wave.map (fun m => s.settings.width (s.techOf m.elem)) = wave.map width := by
      refine List.map_congr_left fun m mem => width_em ?_
      obtain ⟨x, deft, _⟩ := wears m mem
      simpa [State.techOf, deft] using em m mem x deft
    obtain ⟨m, member⟩ := List.exists_mem_of_ne_nil wave some_
    have due := waveDue_of flying phase unpulsed open_ driven (sub.subset member) (waits m member)
      (fun zero => some_ ((congrArg (fun n => List.take n _) (show size = 0 from zero)).trans List.take_zero))
    have acts : (s.at f.banks[b].freeAt).startWave b = (s.at f.banks[b].freeAt).runWave b false wave := by
      simp only [State.startWave, State.at_engine, flying]
      rfl
    refine congrArg _ ((whenDue_runWave runs flying phase due acts sub some_ (distinct_of_ascending ascending sub) wears).trans ?_)
    have widths_at : wave.map (fun m => t.settings.width (t.techOf m.elem)) = wave.map width := widths
    simp only [State.waveRuns, State.pulsed, t, State.at_elems, State.at_engine, pulseLines_em _ em, widths_at]
    rfl

end Sys2Proof.Machine
end
-- ==== Sys2Proof/Proofs/Supply.lean ====
section
/-! PROOFS. The banks side by side (R59, R102), and the levels of QUIET, the detectors and the drive supply (R84, R98, R99, R103). -/

namespace Sys2Proof.Machine

/-! ### What a wave leaves of the other banks -/

/-- What the banks other than `b` see of the plan in flight. -/
structure PlanBeside (b : Fin 8) where
  phase   : Phase
  expired : Bool
  runs    : { c : Fin 8 // c ≠ b } → BankRun
  moves   : List Move

/-- What the banks other than `b` see of the state. -/
structure Beside (b : Fin 8) where
  supply   : Supply
  settings : Settings
  inBank   : Fin 8 → Nat → Bool
  plan     : Option (PlanBeside b)

def State.planBeside (s : State) (b : Fin 8) (f : Flight) : PlanBeside b where
  phase := f.phase
  expired := f.holdExpired
  runs := fun c => f.banks[c.1]
  moves := f.moves.filter (fun m => !s.emInBank b m.elem)

def State.beside (b : Fin 8) (s : State) : Beside b where
  supply := s.supply
  settings := s.settings
  inBank := s.emInBank
  plan := s.engine.flight.map (s.planBeside b)

/-- The entry of an element of the bank whose retry is due (R64). -/
def retryEntry (inBank : Nat → Bool) (m : Move) : Option (Micros × Nat) :=
  match m.prog with
  | .retryDue t => if inBank m.elem then some (t, m.elem) else none
  | _ => none

/-- The earliest of the retries due. -/
def firstRetry : List (Micros × Nat) → Option Nat
  | [] => none
  | d :: ds => some (ds.foldl (fun best x => if x.1 < best.1 then x else best) d).2

theorem bankRetry_eq (s : State) (f : Flight) (b : Fin 8) :
    s.bankRetry f b = firstRetry (f.moves.filterMap (retryEntry (s.emInBank b))) := rfl

/-- An element is in one bank. -/
theorem emInBank_other {s : State} {b c : Fin 8} {e : Nat} (other : c ≠ b) (here : s.emInBank c e = true) : s.emInBank b e = false := by
  unfold State.emInBank at here ⊢
  split
  next x deft =>
    simp only [deft, Bool.and_eq_true, decide_eq_true_eq] at here
    simp [here.2, other]
  next => rfl

section
variable {s : State} {f : Flight} {b c : Fin 8} (other : c ≠ b)
include other

theorem bankWaiting_beside : s.bankWaiting f c = (s.planBeside b f).moves.any (fun m => m.isWaiting && s.emInBank c m.elem) := by
  rw [State.bankWaiting, State.planBeside, List.any_filter]
  refine congrArg (fun p => f.moves.any p) (funext fun m => ?_)
  cases here : s.emInBank c m.elem with
  | false => simp
  | true => simp [emInBank_other other here]

theorem bankRetry_beside {g : Flight} {t : State} (inBank : s.emInBank = t.emInBank)
    (moves : (s.planBeside b f).moves = (t.planBeside b g).moves) : s.bankRetry f c = t.bankRetry g c := by
  have due (u : State) (h : Flight) :
      h.moves.filterMap (retryEntry (u.emInBank c)) = (u.planBeside b h).moves.filterMap (retryEntry (u.emInBank c)) := by
    rw [State.planBeside, List.filterMap_filter]
    refine congrArg (fun p => h.moves.filterMap p) (funext fun m => ?_)
    cases here : u.emInBank c m.elem with
    | false => cases prog : m.prog <;> simp [retryEntry, prog, here]
    | true => simp [emInBank_other other here]
  rw [bankRetry_eq, bankRetry_eq, due s f, due t g, moves, inBank]

/-- What is due in another bank is a matter of what it sees. -/
theorem dues_of_beside {t : State} (same : s.beside b = t.beside b) : s.waveDue c = t.waveDue c ∧ s.retryDueAt c = t.retryDueAt c := by
  obtain ⟨supply, settings, inBank, plan⟩ := Beside.mk.inj same
  unfold State.waveDue State.retryDueAt
  cases fs : s.engine.flight with
  | none =>
    cases ft : t.engine.flight with
    | none => exact ⟨rfl, rfl⟩
    | some g => simp [fs, ft] at plan
  | some f =>
    cases ft : t.engine.flight with
    | none => simp [fs, ft] at plan
    | some g =>
      simp only [fs, ft, Option.map_some, Option.some.injEq] at plan
      obtain ⟨phase, expired, runs, moves⟩ := PlanBeside.mk.inj plan
      have run : f.banks[c] = g.banks[c] := congrFun runs ⟨c, other⟩
      have free : s.bankFree f c = t.bankFree g c := by
        simp only [State.bankFree, run, phase, expired, supply]
      have waits : s.bankWaiting f c = t.bankWaiting g c := by
        rw [bankWaiting_beside other, bankWaiting_beside other, plan, inBank]
      have retry : s.bankRetry f c = t.bankRetry g c := bankRetry_beside other inBank (congrArg PlanBeside.moves plan)
      have size : s.effSize c = t.effSize c := by simp only [State.effSize, supply, settings]
      simp only [free, waits, retry, size, run, and_self]

end

theorem emInBank_of_kept {s t : State} (kept : t.kept = s.kept) : t.emInBank = s.emInBank := by
  have defs (u : State) (e : Nat) : tget u.kept.elemDefs e = (tget u.elems e).map (fun x => (x.d, x.losses)) :=
    tget_map u.elems (fun kv => (kv.2.d, kv.2.losses)) e
  funext b e
  have same := (defs t e).symm.trans ((congrArg (fun k => tget (Kept.elemDefs k) e) kept).trans (defs s e))
  unfold State.emInBank
  cases here : tget s.elems e with
  | none =>
    rw [here] at same
    simp [Option.map_eq_none_iff.mp same]
  | some x =>
    rw [here] at same
    obtain ⟨y, found, eq⟩ := Option.map_eq_some_iff.mp same
    simp [found, (Prod.mk.inj eq).1]

/-! ### The other banks during a wave -/

theorem countPulse_engine (s : State) (e : Nat) : (s.countPulse e).engine = s.engine := by
  have lifeTest_engine (t : State) : (t.lifeTest e).engine = t.engine := by
    unfold State.lifeTest
    split
    · split <;> rfl
    · rfl
  unfold State.countPulse
  split
  · split
    · exact lifeTest_engine _
    · exact lifeTest_engine _
  · rfl

theorem driveElem_flight (s : State) (e : Nat) (v : Tech → SlotDrive) : (s.driveElem e v).engine.flight = s.engine.flight := by
  unfold State.driveElem
  split <;> rfl

theorem modFlight_flight (s : State) (g : Flight → Flight) : (s.modFlight g).engine.flight = s.engine.flight.map g := by
  unfold State.modFlight
  cases flying : s.engine.flight with
  | none => exact flying
  | some f => rfl

/-- The moves of a wave's members are pulsed one after the other. -/
def pulseMoves (retry : Bool) (ms moves : List Move) : List Move :=
  ms.foldl (fun l m => setMove m.elem (fun x => { x with prog := .pulsing retry, charged := false }) l) moves

theorem pulseMembers_flight (retry : Bool) (ms : List Move) (s : State) :
    (ms.foldl (pulseMember retry) s).engine.flight = s.engine.flight.map (fun f => { f with moves := pulseMoves retry ms f.moves }) := by
  induction ms generalizing s with
  | nil => cases flying : s.engine.flight <;> simp [flying, pulseMoves]
  | cons m ms ih =>
    rw [List.foldl_cons, ih]
    unfold pulseMember
    rw [modFlight_flight, countPulse_engine, driveElem_flight, Option.map_map]
    rfl

theorem runWave_flight (s : State) (b : Fin 8) (retry : Bool) (ms : List Move) : ∃ e, (s.runWave b retry ms).engine.flight =
    s.engine.flight.map (fun f => { f with
      moves := pulseMoves retry ms f.moves, banks := f.banks.set b { f.banks[b] with endsAt := e } }) := by
  refine ⟨some (s.now + (ms.map (fun m => s.settings.width (s.techOf m.elem))).foldl max 0), ?_⟩
  unfold State.runWave
  rw [modFlight_flight, pulseMembers_flight, Option.map_map]
  rfl

/-- Pulsing elements of a bank leaves the moves outside the bank. -/
theorem pulseMoves_beside {outside : Nat → Bool} (retry : Bool) (ms moves : List Move) (inBank : ∀ m ∈ ms, outside m.elem = false) :
    (pulseMoves retry ms moves).filter (fun m => outside m.elem) = moves.filter (fun m => outside m.elem) := by
  induction ms generalizing moves with
  | nil => rfl
  | cons m ms ih =>
    have one : (setMove m.elem (fun x => { x with prog := .pulsing retry, charged := false }) moves).filter (fun m => outside m.elem) =
        moves.filter (fun m => outside m.elem) := by
      induction moves with
      | nil => rfl
      | cons n ns rest =>
        have out := inBank m List.mem_cons_self
        by_cases here : n.elem = m.elem <;> simp_all [setMove, List.filter_cons]
    exact (ih _ fun n mem => inBank n (List.mem_cons_of_mem _ mem)).trans one

/-- A wave of a bank is nothing to the other banks. -/
theorem runWave_beside {s : State} {b : Fin 8} {retry : Bool} {ms : List Move} (inBank : ∀ m ∈ ms, s.emInBank b m.elem = true) :
    (s.runWave b retry ms).beside b = s.beside b := by
  have kept := runWave_kept s b retry ms
  obtain ⟨e, flight⟩ := runWave_flight s b retry ms
  have plan (f : Flight) : s.planBeside b { f with
      moves := pulseMoves retry ms f.moves, banks := f.banks.set b { f.banks[b] with endsAt := e } } = s.planBeside b f := by
    have runs (c : { c : Fin 8 // c ≠ b }) : (f.banks.set b { f.banks[b] with endsAt := e })[c.1] = f.banks[c.1] :=
      Vector.getElem_set_ne _ _ fun same => c.2 (Fin.ext same.symm)
    simp only [State.planBeside, runs, pulseMoves_beside retry ms f.moves (outside := fun e => !s.emInBank b e)
      (fun m mem => by simp [inBank m mem])]
  unfold State.beside
  refine Beside.mk.injEq .. ▸ ⟨congrArg Kept.supply kept, congrArg Kept.settings kept, emInBank_of_kept kept, ?_⟩
  rw [flight, Option.map_map]
  refine congrArg (fun p => s.engine.flight.map p) (funext fun f => ?_)
  refine Eq.trans ?_ (plan f)
  simp only [Function.comp, State.planBeside, emInBank_of_kept kept]

theorem startWave_beside (s : State) (b : Fin 8) : (s.startWave b).beside b = s.beside b := by
  unfold State.startWave
  split
  next f flying =>
    refine runWave_beside fun m mem => ?_
    exact (Bool.and_eq_true_iff.mp (List.mem_filter.mp (List.mem_of_mem_take mem)).2).2
  next => rfl

theorem firstRetry_mem {l : List (Micros × Nat)} {e : Nat} (first : firstRetry l = some e) : ∃ x ∈ l, x.2 = e := by
  have earliest (d : Micros × Nat) (ds : List (Micros × Nat)) :
      ds.foldl (fun best x => if x.1 < best.1 then x else best) d ∈ d :: ds := by
    induction ds generalizing d with
    | nil => exact List.mem_cons_self
    | cons x ds ih =>
      rw [List.foldl_cons]
      split
      · exact List.mem_cons_of_mem _ (ih x)
      · exact List.cons_subset_cons d (List.subset_cons_self x ds) (ih d)
  cases l with
  | nil => cases first
  | cons d ds => exact ⟨_, earliest d ds, Option.some.inj first⟩

/-- The retry of a bank is of an element of the bank. -/
theorem bankRetry_inBank {s : State} {f : Flight} {b : Fin 8} {e : Nat} (retry : s.bankRetry f b = some e) : s.emInBank b e = true := by
  obtain ⟨x, mem, rfl⟩ := firstRetry_mem (bankRetry_eq s f b ▸ retry)
  obtain ⟨m, _, entry⟩ := List.mem_filterMap.mp mem
  unfold retryEntry at entry
  split at entry
  · split at entry
    next here => exact Option.some.inj entry ▸ here
    next => cases entry
  · cases entry

theorem startRetry_beside (s : State) (b : Fin 8) : (s.startRetry b).beside b = s.beside b := by
  unfold State.startRetry
  split
  · split
    next e retry =>
      refine runWave_beside fun m mem => ?_
      have same : m.elem = e := by simpa using (List.mem_filter.mp mem).2
      exact same ▸ bankRetry_inBank retry
    next => rfl
  · rfl

theorem startBank_beside (s : State) (b : Fin 8) : (startBank s b).beside b = s.beside b := by
  unfold startBank
  split
  · split
    · exact startWave_beside s b
    · rfl
  · split
    · split
      · exact startRetry_beside s b
      · rfl
    · rfl

/-! ### Starting the banks (R58, R102) -/

/-- Nothing is due in a bank by now. -/
def State.bankRests (s : State) (b : Fin 8) : Prop := ∀ t, s.waveDue b = some t ∨ s.retryDueAt b = some t → s.now < t

theorem startBank_rests {s : State} {b : Fin 8} (rests : s.bankRests b) : startBank s b = s := by
  unfold startBank
  split
  next t due => exact if_neg (Nat.not_le.mpr (rests t (.inl due)))
  next =>
    split
    next t due => exact if_neg (Nat.not_le.mpr (rests t (.inr due)))
    next => rfl

theorem bankRests_of_none {s : State} {b : Fin 8} (none_due : s.waveDue b = none ∧ s.retryDueAt b = none) : s.bankRests b :=
  fun t due => by simp [none_due.1, none_due.2] at due

theorem foldl_startBank_rests {s : State} {bs : List (Fin 8)} (rests : ∀ b ∈ bs, s.bankRests b) : bs.foldl startBank s = s := by
  induction bs with
  | nil => rfl
  | cons b bs ih =>
    rw [List.foldl_cons, startBank_rests (rests b List.mem_cons_self), ih fun c mem => rests c (List.mem_cons_of_mem _ mem)]

/-- Nothing starts where nothing is due. -/
theorem startBanks_rests {s : State} (rests : ∀ b, s.bankRests b) : s.startBanks = s := foldl_startBank_rests fun b _ => rests b

/-- Where one bank alone has something due, it alone starts. -/
theorem startBanks_single {s : State} {b : Fin 8} (others : ∀ c, c ≠ b → s.waveDue c = none ∧ s.retryDueAt c = none) :
    s.startBanks = startBank s b := by
  have every : ∀ c : Fin 8, c ∈ allBanks := by decide
  have nodup : allBanks.Nodup := by decide
  obtain ⟨before, after, split⟩ := List.append_of_mem (every b)
  rw [split] at nodup
  obtain ⟨_, tail, apart⟩ := List.nodup_append.mp nodup
  have first : before.foldl startBank s = s := foldl_startBank_rests fun c mem =>
    bankRests_of_none (others c (apart c mem b List.mem_cons_self))
  have last : after.foldl startBank (startBank s b) = startBank s b := foldl_startBank_rests fun c mem => by
    have other : c ≠ b := fun same => (List.nodup_cons.mp tail).1 (same ▸ mem)
    obtain ⟨wave, retry⟩ := dues_of_beside other (startBank_beside s b)
    obtain ⟨no_wave, no_retry⟩ := others c other
    exact bankRests_of_none ⟨wave.trans no_wave, retry.trans no_retry⟩
  rw [State.startBanks, split, List.foldl_append, List.foldl_cons, first, last]

theorem startBank_wave {s : State} {b : Fin 8} {t : Micros} (due : s.waveDue b = some t) (past : t ≤ s.now) :
    startBank s b = s.startWave b := by
  simp [startBank, due, past]

theorem startBank_retry {s : State} {b : Fin 8} {t : Micros} (due : s.retryDueAt b = some t) (past : t ≤ s.now) :
    startBank s b = s.startRetry b := by
  have no_wave : s.waveDue b = none := by
    unfold State.retryDueAt at due
    unfold State.waveDue
    cases flying : s.engine.flight with
    | none => rfl
    | some f =>
      simp only [flying] at due
      refine if_neg fun waits => ?_
      simp only [Bool.and_eq_true] at waits
      simp [waits.1.2] at due
  simp [startBank, no_wave, due, past]

theorem startBanks_noFlight {s : State} (none_flying : s.engine.flight = none) : s.startBanks = s :=
  startBanks_rests fun _ => bankRests_of_none (by simp [State.waveDue, State.retryDueAt, none_flying])

/-! ### Input levels -/

section
variable {s : State} (none_flying : s.engine.flight = none)
include none_flying

/-- Levels, readings and notices make nothing due while no plan is in flight. -/
theorem calm_levels (calm : s.calm) {g : GuardUnit} {p : Supply} {ns : List Notice} (carry : g.carry = s.guard.carry) :
    ({ s with guard := g, supply := p, notices := ns } : State).calm := by
  obtain ⟨waiting, submit, uncarried⟩ := calm_empty calm none_flying
  exact calm_of_empty none_flying waiting submit (carry.trans uncarried)

theorem quietFell_noFlight : s.quietFell = s := by simp [State.quietFell, none_flying]

theorem supplyChanged_noFlight (was st : SupplyState) :
    s.supplyChanged was st = { s with supply := { s.supply with st := st } }.notify .supply (vWord (supplyText st)) (vNum s.supply.reading) := by
  have still : ({ s with supply := { s.supply with st := st } }.notify .supply (vWord (supplyText st)) (vNum s.supply.reading)).modFlight
      (holdClock s.now st) = { s with supply := { s.supply with st := st } }.notify .supply (vWord (supplyText st)) (vNum s.supply.reading) := by
    simp [State.modFlight, none_flying]
  unfold State.supplyChanged
  simp only [still]
  split
  · exact startBanks_noFlight none_flying
  · rfl

end

theorem nextSupply_cut (was : SupplyState) (v : Nat) : nextSupply was v = .cut ↔ v < 192 ∨ (v < 196 ∧ was = .cut) := by
  unfold nextSupply
  cases was <;> grind

theorem nextSupply_normal (was : SupplyState) (v : Nat) : nextSupply was v = .normal ↔ 216 ≤ v ∨ (212 ≤ v ∧ was = .normal) := by
  unfold nextSupply
  cases was <;> grind

theorem during_running {s : State} (runs : s.life = .running) (go : State → State) : s.during go = (go s).settled := if_pos runs

/-- An event whose moment has passed acts now (log entry 2). -/
theorem whenDue_past {s : State} {due : Option Micros} {t : Micros} {go : State → State} (hdue : due = some t) (past : t ≤ s.now)
    (runs : s.life = .running) : s.whenDue due go = (go s).settled := by
  have now : s.at t = s := by simp [State.at, Nat.max_eq_left past]
  simp only [State.whenDue, hdue, during_running runs, now]

/-- The reading of the drive supply is stored. -/
def State.withReading (s : State) (v : Nat) : State := { s with supply := { s.supply with reading := v } }

theorem during_congr {s : State} {go went : State → State} (same : go s = went s) : s.during go = s.during went := by
  simp only [State.during, same]

theorem exec_supplyChange (s : State) (x : Int) : exec (.supplyChange x) s =
    .next ((s.withReading (readVoltage x)).during (fun t => if nextSupply s.supply.st (readVoltage x) = s.supply.st then t
      else t.supplyChanged s.supply.st (nextSupply s.supply.st (readVoltage x)))) := by
  refine congrArg Host.Outcome.next (during_congr (s := s.withReading (readVoltage x)) ?_)
  rfl

/-- A reading that keeps the supply state (R98). -/
theorem exec_supplyChange_same {s : State} {x : Int} (same : nextSupply s.supply.st (readVoltage x) = s.supply.st) :
    exec (.supplyChange x) s = .next ((s.withReading (readVoltage x)).during id) := by
  rw [exec_supplyChange]
  simp only [if_pos same]
  rfl

/-- A reading that changes the supply state (R98). -/
theorem exec_supplyChange_other {s : State} {x : Int} (other : nextSupply s.supply.st (readVoltage x) ≠ s.supply.st) :
    exec (.supplyChange x) s = .next ((s.withReading (readVoltage x)).during
      (fun t => t.supplyChanged s.supply.st (nextSupply s.supply.st (readVoltage x)))) := by
  rw [exec_supplyChange]
  simp only [if_neg other]

section
variable {s : State} (x : Int) (still : s.still) (none_flying : s.engine.flight = none)
include still none_flying

theorem supplyChange_kept (same : nextSupply s.supply.st (readVoltage x) = s.supply.st) :
    exec (.supplyChange x) s = .next { s with supply := ⟨readVoltage x, s.supply.st⟩ } :=
  (exec_supplyChange_same same).trans (congrArg _ (during_calm still.1
    (calm_levels none_flying still.2 (g := s.guard) (p := ⟨readVoltage x, s.supply.st⟩) (ns := s.notices) rfl)))

theorem supplyChange_changed (other : nextSupply s.supply.st (readVoltage x) ≠ s.supply.st) :
    exec (.supplyChange x) s = .next { s with
      supply := ⟨readVoltage x, nextSupply s.supply.st (readVoltage x)⟩
      notices := queueNotice s.notices ⟨.supply, s.noticeTime, vWord (supplyText (nextSupply s.supply.st (readVoltage x))),
        vNum (readVoltage x)⟩ } := by
  have acts := supplyChanged_noFlight (s := s.withReading (readVoltage x)) none_flying s.supply.st
    (nextSupply s.supply.st (readVoltage x))
  refine (exec_supplyChange_other other).trans (congrArg _ ((during_calm (s := s.withReading (readVoltage x)) still.1 ?_).trans acts))
  rw [acts]
  exact calm_levels none_flying still.2 (g := s.guard) rfl

end

/-! ### Supply changes with a plan in MOVE -/

/-- A change of supply state with a plan in MOVE, before any wave it releases: the state and the notice, and the hold clock. -/
def State.supplyMoves (s : State) (v : Nat) (st : SupplyState) (f : Flight) (limit : Option Micros) : State :=
  { s with
    supply := ⟨v, st⟩
    engine := { s.engine with flight := some { f with holdLimit := limit } }
    notices := queueNotice s.notices ⟨.supply, s.noticeTime, vWord (supplyText st), vNum v⟩ }

section
variable {s : State} {f : Flight} (flying : s.engine.flight = some f) (phase : f.phase = .move)
include flying phase

theorem unresolved_of_calm (calm : s.calm) : f.moves.all Move.isResolved = false := by
  by_contra resolved
  have instant := instant_of_resolved flying phase (Bool.not_eq_false _ ▸ resolved)
  simp [State.calm, instant] at calm

theorem supplyMoves_calm (calm : s.calm) (v : Nat) (st : SupplyState) (limit : Option Micros) : (s.supplyMoves v st f limit).calm :=
  calm_of_moving (f := { f with holdLimit := limit }) rfl phase (unresolved_of_calm (f := f) flying phase calm)

theorem supplyChanged_enters_cut {was : SupplyState} (v : Nat) (other : was ≠ .cut) :
    (s.withReading v).supplyChanged was .cut = s.supplyMoves v .cut f (some (s.now + 500000)) := by
  have clock : holdClock s.now .cut f = { f with holdLimit := some (s.now + 500000) } := (if_pos rfl).trans (if_pos phase)
  unfold State.supplyChanged
  rw [modFlight_eq _ (by exact flying)]
  refine (if_neg other).trans ?_
  rw [State.supplyMoves, ← clock]
  rfl

omit phase

theorem supplyChanged_leaves_cut {st : SupplyState} (v : Nat) (other : st ≠ .cut) :
    (s.withReading v).supplyChanged .cut st = (s.supplyMoves v st f none).startBanks := by
  have clock : holdClock s.now st f = { f with holdLimit := none } := if_neg other
  unfold State.supplyChanged
  rw [modFlight_eq _ (by exact flying)]
  refine (if_pos rfl).trans (congrArg State.startBanks ?_)
  rw [State.supplyMoves, ← clock]
  rfl

end

/-- Leaving CUT (R98). -/
theorem nextSupply_leaves_cut {v : Nat} (high : 196 ≤ v) :
    nextSupply .cut v = (if v < 192 then SupplyState.cut else if v < 216 then .low else .normal) ∧ nextSupply .cut v ≠ .cut := by
  unfold nextSupply
  grind

/-- Settles O52: levels with no plan in flight, and with a plan in MOVE what entering and leaving CUT does to the banks. -/
theorem inputLevelsAreStored : Obligations.InputLevelsAreStored := by
  refine ⟨fun s still none_flying => ⟨fun high => ?_, fun d x => ?_, fun x => ?_, fun x =>
    ⟨supplyChange_kept x still none_flying, supplyChange_changed x still none_flying⟩⟩, fun s f x still flying phase => ?_⟩
  · let quiet : State := { s with guard := { s.guard with quiet := high } }
    have acts : (if s.guard.quiet && !high then quiet.quietFell else quiet) = quiet := by
      split
      · exact quietFell_noFlight none_flying
      · rfl
    refine congrArg _ ((during_calm (s := quiet) still.1 ?_).trans acts)
    rw [acts]
    exact calm_levels none_flying still.2 (g := quiet.guard) (p := s.supply) (ns := s.notices) rfl
  · intro was th present
    let stored : State := { s with guard := { s.guard with dets := s.guard.dets.set d { s.guard.dets[d] with reading := readPower x } } }
    have judged := judgeDetector_noFlight (s := stored) d none_flying
    have acts : stored.judgeDetector d = { s with guard := { s.guard with dets := s.guard.dets.set d ⟨readPower x, present⟩ } } := by
      refine judged.trans ?_
      simp [stored, judgeRf_eq, present, was, th]
    refine congrArg _ ((during_calm (s := stored) still.1 ?_).trans acts)
    rw [acts]
    exact calm_levels none_flying still.2 (g := { s.guard with dets := s.guard.dets.set d ⟨readPower x, present⟩ }) (p := s.supply)
      (ns := s.notices) rfl
  · have cut := nextSupply_cut s.supply.st (readVoltage x)
    have normal := nextSupply_normal s.supply.st (readVoltage x)
    by_cases same : nextSupply s.supply.st (readVoltage x) = s.supply.st
    · rw [same] at cut normal
      exact ⟨_, supplyChange_kept x still none_flying same, rfl, cut, normal⟩
    · exact ⟨_, supplyChange_changed x still none_flying same, rfl, cut, normal⟩
  · intro v st after
    refine ⟨fun powered low => ?_, fun cut high => ?_⟩
    · have next : nextSupply s.supply.st v = .cut := (nextSupply_cut _ _).mpr (.inl low)
      have state : st = .cut := if_pos low
      have acts := supplyChanged_enters_cut flying phase v powered
      have moves : after (some (s.now + 500000)) = s.supplyMoves v .cut f (some (s.now + 500000)) := state ▸ rfl
      rw [moves, ← acts, exec_supplyChange_other (by rw [next]; exact powered.symm), next]
      refine congrArg _ (during_calm (s := s.withReading v) still.1 ?_)
      rw [acts]
      exact supplyMoves_calm flying phase still.2 ..
    · obtain ⟨next, uncut⟩ := nextSupply_leaves_cut high
      have acts : (s.withReading v).supplyChanged .cut st = (after none).startBanks :=
        supplyChanged_leaves_cut flying v fun same => uncut (next.trans same)
      have row : exec (.supplyChange x) s = .next (after none).startBanks.settled := by
        rw [exec_supplyChange_other (by rw [cut]; exact uncut), cut, next]
        exact congrArg _ ((during_running (s := s.withReading v) still.1 _).trans (congrArg State.settled acts))
      refine ⟨fun rests => ?_, fun b t0 past others => ⟨fun due => ?_, fun due => ?_⟩⟩
      · rw [row, startBanks_rests rests, settled_calm]
        exact supplyMoves_calm flying phase still.2 ..
      · rw [row, startBanks_single others, startBank_wave due past]
        exact congrArg Host.Outcome.next (whenDue_past (s := after none) (go := fun t => t.startWave b) due past still.1).symm
      · rw [row, startBanks_single others, startBank_retry due past]
        exact congrArg Host.Outcome.next (whenDue_past (s := after none) (go := fun t => t.startRetry b) due past still.1).symm

end Sys2Proof.Machine
end
-- ==== Sys2Proof/Proofs/MoveEntry.lean ====
section
/-! PROOFS. The entry into MOVE (R14, R58): the elements become MOVING, SS elements are driven, and the banks start their first
waves. Stated for move sets with one electromechanical element, behind any SS elements. -/

namespace Sys2Proof.Machine

/-! ### The parts of the entry -/

/-- Changes of two records come in either order. -/
theorem tmod_comm {α : Type} {t : Table α} {j k : Nat} {f g : α → α} (other : j ≠ k) :
    tmod (tmod t j f) k g = tmod (tmod t k g) j f := by
  simp only [tmod, List.map_map]
  refine List.map_congr_left fun kv _ => ?_
  by_cases first : kv.1 = j
  · simp [first, other]
  · by_cases second : kv.1 = k <;> simp [first, second, other.symm]

/-- The plan in flight at the beginning of MOVE, in full supply. -/
def Flight.entering (f : Flight) : Flight :=
  { f with phase := .move, holdLimit := none, banks := Vector.replicate 8 .fresh }

theorem enterMove_eq {s : State} {f : Flight} (flying : s.engine.flight = some f) (unsafe_ : f.plan.kind ≠ .safe)
    (normal : s.supply.st = .normal) :
    s.enterMove = (f.moves.foldl driveSs (f.moves.foldl (fun t m => t.modElem m.elem (startMoving m.target))
      (s.setFlight f.entering))).startBanks.verifyReadyNow (f.moves.map (·.elem)) := by
  simp only [State.enterMove, flying, unsafe_, normal, if_false, reduceCtorEq]
  rfl

/-- An SS element is driven, and its settle interval begins (R58, R61). -/
theorem driveSs_ss {s : State} {f : Flight} {m : Move} {x : Element} (flying : s.engine.flight = some f)
    (deft : tget s.elems m.elem = some x) (ss : x.d.tech = .ss) (wears : s.wearable m.elem) :
    driveSs s m = ({ s with
      elems := tmod s.elems m.elem countLife
      engine := { s.engine with
        drive := s.engine.drive.set x.d.slotIndex (.bias m.target)
        flight := some { f with moves := setMove m.elem (fun x => { x with
          prog := .settling false (s.now + s.settings.settleTime .ss m.profile), charged := false }) f.moves } } } : State).markWear := by
  have tech : s.techOf m.elem = .ss := by simp [State.techOf, deft, ss]
  have driven := driveElem_eq (fun t => pulseDrive t m.target) deft
  have counted := countPulse_eq (s := s.setDrive x.d (pulseDrive x.d.tech m.target)) wears
  unfold driveSs
  rw [if_pos tech, driven, counted, modFlight_markWear, modFlight_eq _ (by exact flying)]
  simp [State.modElem, State.setDrive, State.setFlight, ss, pulseDrive]

/-- No electromechanical element is driven before its wave. -/
theorem driveSs_em {s : State} {m : Move} {x : Element} (deft : tget s.elems m.elem = some x) (em : x.d.tech ≠ .ss) :
    driveSs s m = s := by
  have tech : s.techOf m.elem ≠ .ss := by simpa [State.techOf, deft] using em
  exact if_neg tech

/-- Elements that are not ready are not verified. -/
theorem verifyReadyNow_none {s : State} {f : Flight} {es : List Nat} (flying : s.engine.flight = some f)
    (unready : ∀ e ∈ es, ∀ m, f.moves.find? (fun m => m.elem = e) = some m → ∀ r t, m.prog = .settling r t → s.now < t) :
    s.verifyReadyNow es = s := by
  induction es with
  | nil => rfl
  | cons e es ih =>
    have rest := ih fun e mem => unready e (List.mem_cons_of_mem _ mem)
    have first : s.verifyReadyNow [e] = s := by
      cases entry : f.moves.find? (fun m => m.elem = e) with
      | none => simp [State.verifyReadyNow, flying, entry]
      | some m =>
        cases prog : m.prog with
        | settling r t => exact verifyReadyNow_unready flying entry prog (unready e List.mem_cons_self m entry r t prog)
        | waiting => simp [State.verifyReadyNow, flying, entry, prog]
        | pulsing r => simp [State.verifyReadyNow, flying, entry, prog]
        | retryDue t => simp [State.verifyReadyNow, flying, entry, prog]
        | resolved => simp [State.verifyReadyNow, flying, entry, prog]
    have both : s.verifyReadyNow (e :: es) = (s.verifyReadyNow [e]).verifyReadyNow es := rfl
    rw [both, first, rest]

/-- The first waves of a move set with one element unpulsed: its bank pulses it, and no other bank starts anything. -/
theorem startBanks_fresh {s : State} {f : Flight} {m : Move} {x : Element} {b : Fin 8} (flying : s.engine.flight = some f) (phase : f.phase = .move)
    (fresh : f.banks = Vector.replicate 8 .fresh) (open_ : f.holdExpired = false) (normal : s.supply.st = .normal)
    (waits : f.moves.filter Move.isWaiting = [m]) (no_retry : ∀ n ∈ f.moves, ∀ t, n.prog ≠ .retryDue t)
    (deft : tget s.elems m.elem = some x) (eml : x.d.tech = .eml) (bank : x.d.bank = b) (sized : 1 ≤ s.settings.waveSize[b]) :
    s.startBanks = s.runWave b false [m] := by
  have here := emInBank_of deft eml bank
  have run (c : Fin 8) : f.banks[c] = .fresh := by simp [fresh]
  obtain ⟨member, waiting⟩ : m ∈ f.moves ∧ m.isWaiting = true := List.mem_filter.mp (waits ▸ List.mem_singleton_self m)
  have others (c : Fin 8) (other : c ≠ b) : s.waveDue c = none ∧ s.retryDueAt c = none := by
    have retry : s.bankRetry f c = none := by
      have entries : f.moves.filterMap (retryEntry (s.emInBank c)) = [] := by
        rw [List.filterMap_eq_nil_iff]
        intro n mem
        cases prog : n.prog <;> simp [retryEntry, prog]
        exact (no_retry n mem _ prog).elim
      rw [bankRetry_eq, entries]
      rfl
    have unwaiting : s.bankWaiting f c = false := by
      refine List.any_eq_false.mpr fun n mem both => ?_
      obtain ⟨waiting, inBank⟩ := Bool.and_eq_true_iff.mp both
      have same : n = m := List.mem_singleton.mp (waits ▸ List.mem_filter.mpr ⟨mem, waiting⟩)
      rw [same, emInBank_other (Ne.symm other) here] at inBank
      cases inBank
    simp [State.waveDue, State.retryDueAt, flying, retry, unwaiting]
  have size : 1 ≤ s.effSize b := by simpa [State.effSize, normal] using sized
  have due := waveDue_of flying phase (congrArg BankRun.endsAt (run b)) open_ (by simp [normal]) member
    (Bool.and_eq_true_iff.mpr ⟨waiting, here⟩) (Nat.ne_of_gt size)
  have wave : f.moves.filter (fun m => m.isWaiting && s.emInBank b m.elem) = [m] := by
    have split := List.filter_filter (p := fun m => s.emInBank b m.elem) (q := Move.isWaiting) (l := f.moves)
    rw [waits] at split
    simp only [Bool.and_comm] at split
    rw [← split]
    simp [here]
  rw [startBanks_single others, startBank_wave due (by rw [run]; exact Nat.zero_le _)]
  simp only [State.startWave, flying, wave, List.take_of_length_le (l := [m]) size]

/-! ### One EML element -/

/-- An element of a move set as MOVE begins with its first pulse. -/
def startPulsed (target : Nat) (y : Element) : Element :=
  { y with st := .moving target (formerOf y.st), counting := none, wear := { y.wear with life := y.wear.life + 1 } }

section
variable {s : State} {f : Flight} (flying : s.engine.flight = some f) (unsafe_ : f.plan.kind ≠ .safe) (open_ : f.holdExpired = false)
  (normal : s.supply.st = .normal)
include flying unsafe_ open_ normal

theorem enterMove_single {m : Move} {x : Element} (moves : f.moves = [m]) (waiting : m.prog = .waiting)
    (deft : tget s.elems m.elem = some x) (eml : x.d.tech = .eml) (young : x.wear.life < 99999999) (unlimited : x.wear.limit = 0)
    (sized : 1 ≤ s.settings.waveSize[x.d.bank]) :
    s.enterMove = ({ s with
      elems := tmod s.elems m.elem (startPulsed m.target)
      engine := { s.engine with
        drive := s.engine.drive.set x.d.slotIndex (.coil m.target)
        flight := some { f with
          phase := .move
          holdLimit := none
          moves := [{ m with prog := .pulsing false, charged := false }]
          banks := (Vector.replicate 8 ⟨none, 0⟩).set x.d.bank ⟨some (s.now + s.settings.pulseEml), 0⟩ } } } : State).markWear := by
  let moving : State := (s.setFlight f.entering).modElem m.elem (startMoving m.target)
  have moved : tget moving.elems m.elem = some (startMoving m.target x) := tget_tmod_self deft
  have undriven : driveSs moving m = moving := driveSs_em moved (by simp [startMoving, eml])
  have starts : moving.startBanks = moving.runWave x.d.bank false [m] := startBanks_fresh (s := moving) (f := f.entering) rfl rfl rfl open_ normal (m := m)
    (by simp [Flight.entering, moves, Move.isWaiting, waiting]) (by simp [Flight.entering, moves, waiting]) moved eml rfl sized
  have runs := runWave_eq (retry := false) (ms := [m]) (s := moving) (f := f.entering) x.d.bank rfl (by simp)
    (List.pairwise_singleton _ _) (by simpa using ⟨_, moved, young, unlimited⟩)
  have single := waveRuns_single (s := moving) (f := f.entering) x.d.bank false moves moved eml
  rw [enterMove_eq flying unsafe_ normal]
  simp only [moves, List.foldl_cons, List.foldl_nil, List.map_cons, List.map_nil]
  rw [undriven, starts, runs, single, verifyReadyNow_none rfl (by simp)]
  simp only [moving, State.modElem, State.setFlight, Flight.entering, BankRun.fresh, tmod_tmod, Fin.getElem_fin, Vector.getElem_replicate]
  rfl

/-- An SS element is biased and settles, an EML element is pulsed. -/
theorem enterMove_pair {m m2 : Move} {x x2 : Element} (moves : f.moves = [m, m2]) (other : m.elem ≠ m2.elem)
    (waiting : m2.prog = .waiting) (deft : tget s.elems m.elem = some x) (deft2 : tget s.elems m2.elem = some x2)
    (ss : x.d.tech = .ss) (eml : x2.d.tech = .eml) (unlimited : x.wear.limit = 0) (unlimited2 : x2.wear.limit = 0)
    (young : x.wear.life < 99999999) (young2 : x2.wear.life < 99999999) (settles : 0 < s.settings.settleTime .ss m.profile)
    (sized : 1 ≤ s.settings.waveSize[x2.d.bank]) :
    s.enterMove = ({ s with
      elems := tmod (tmod s.elems m.elem (startPulsed m.target)) m2.elem (startPulsed m2.target)
      engine := { s.engine with
        drive := (s.engine.drive.set x.d.slotIndex (.bias m.target)).set x2.d.slotIndex (.coil m2.target)
        flight := some { f with
          phase := .move
          holdLimit := none
          moves := [{ m with prog := .settling false (s.now + s.settings.settleTime .ss m.profile), charged := false },
            { m2 with prog := .pulsing false, charged := false }]
          banks := (Vector.replicate 8 ⟨none, 0⟩).set x2.d.bank ⟨some (s.now + s.settings.pulseEml), 0⟩ } } } : State).markWear := by
  let moving : State := ((s.setFlight f.entering).modElem m.elem (startMoving m.target)).modElem m2.elem (startMoving m2.target)
  let settling : Move := { m with prog := .settling false (s.now + s.settings.settleTime .ss m.profile), charged := false }
  let f2 : Flight := { f.entering with moves := [settling, m2] }
  let biased : State := { moving with
    elems := tmod moving.elems m.elem countLife
    engine := { moving.engine with drive := s.engine.drive.set x.d.slotIndex (.bias m.target), flight := some f2 } }
  have moved : tget moving.elems m.elem = some (startMoving m.target x) := by
    simp [moving, State.modElem, State.setFlight, tget_tmod, other, deft]
  have moved2 : tget moving.elems m2.elem = some (startMoving m2.target x2) := by
    simp [moving, State.modElem, State.setFlight, tget_tmod, other.symm, deft2]
  have biased2 : tget biased.elems m2.elem = some (startMoving m2.target x2) := by
    simp [biased, tget_tmod, other.symm, moved2]
  have driven : driveSs moving m = biased.markWear := by
    have row := driveSs_ss (s := moving) (f := f.entering) rfl moved ss ⟨_, moved, young, unlimited⟩
    simp only [Flight.entering, moves, setMove, List.map_cons, List.map_nil, if_true, if_neg other.symm] at row
    exact row
  have undriven : driveSs biased.markWear m2 = biased.markWear :=
    driveSs_em biased2 (by simp [startMoving, eml])
  have starts : biased.markWear.startBanks = biased.markWear.runWave x2.d.bank false [m2] :=
    startBanks_fresh (s := biased.markWear) (f := f2) rfl rfl rfl open_ normal (m := m2)
    (by simp [f2, settling, Move.isWaiting, waiting]) (by simp [f2, settling, waiting]) biased2 eml rfl sized
  have runs := runWave_eq (retry := false) (ms := [m2]) (s := biased.markWear) (f := f2) x2.d.bank rfl (by simp)
    (List.pairwise_singleton _ _) (by simpa using ⟨_, biased2, young2, unlimited2⟩)
  rw [enterMove_eq flying unsafe_ normal]
  simp only [moves, List.foldl_cons, List.foldl_nil, List.map_cons, List.map_nil]
  have eml_wave := waveRuns_eml (s := biased.markWear) f2 x2.d.bank false biased2 eml
  have once := markWear_congr (markWear_markWear biased)
  have elems : tmod (tmod (tmod (tmod s.elems m.elem (startMoving m.target)) m2.elem (startMoving m2.target)) m.elem countLife)
      m2.elem countLife = tmod (tmod s.elems m.elem (startPulsed m.target)) m2.elem (startPulsed m2.target) := by
    rw [tmod_comm other.symm, tmod_tmod, tmod_tmod]
    rfl
  rw [driven, undriven, starts, runs, eml_wave, once, verifyReadyNow_none rfl ?_]
  · simp only [biased, moving, f2, settling, State.modElem, State.setFlight, Flight.entering, BankRun.fresh, setMove, List.map_cons,
      List.map_nil, if_neg other, if_true, Fin.getElem_fin, Vector.getElem_replicate]
    rw [← elems]
    rfl
  · simp [f2, settling, setMove, other, biased, moving, settles, State.modElem, State.setFlight]

end

end Sys2Proof.Machine
end
-- ==== Sys2Proof/Proofs/GuardPhase.lean ====
section
/-! PROOFS. The guard phase (R87 to R89, R91) and hot events (R93 to R95). -/

namespace Sys2Proof.Machine

/-! ### GUARD entry -/

/-- The port of a route's From node, with its mode and detector (R87). -/
def portOf (src : Nat) (n : Machine.Node) : GuardPort := ⟨src, n.guard.getD .open_, n.det⟩

/-- The flight of a LINK plan with one element to move, as it enters GUARD. -/
def Flight.guarding (w : Plan) (now : Micros) (m : Move) (g : GuardRec) : Flight :=
  { plan := w, phase := .guard, started := now, moves := [m], guard := g, checkFailed := false, guardFailed := false
    holdExpired := false, holdLimit := none, banks := Vector.replicate 8 .fresh }

/-- A LINK plan, alone in the queue, of a route with one element out of place enters GUARD. -/
theorem startPlan_guard {s : State} {w : Plan} {p e q : Nat} {r : Route} {x : Element} {n : Machine.Node}
    (waiting : s.engine.waiting = [w]) (kind : w.kind = .link) (ops : w.ops = [⟨.link, p, false⟩]) (releases : w.releases = [])
    (posn : w.posn = none) (profile : w.profile = none) (deft : tget s.routes p = some r) (hops : r.d.hops = [(e, q)])
    (elem : tget s.elems e = some x) (sound : x.st ≠ .fault) (fitted : isFitted s.straps x.d.bank = true)
    (misplaced : s.inPlace e q = false) (node : tget s.nodes r.d.src = some n) :
    s.startPlan = { s with
      engine := { s.engine with
        waiting := []
        flight := some (.guarding w s.now ⟨e, q, r.d.profile, .waiting, false⟩ (s.guardRecord [portOf r.d.src n])) }
      guard := { s.guard with
        planHold := (s.guardRecord [portOf r.d.src n]).handshake && s.guard.releaseEnd.isNone, carry := false } } := by
  let taken : State := { s with engine := { s.engine with waiting := [] } }
  have released : taken.releasePhase w = taken := released_bare (s := s) (ps := []) releases posn
  have unfaulted : taken.inFault e = false := by simpa [State.inFault, taken, elem] using sound
  have checked : taken.checkFails w = false := checkFails_sound ops deft (by simpa [hops] using unfaulted)
  have moves : taken.moveSet w false = [⟨e, q, r.d.profile, .waiting, false⟩] :=
    (moveSet_link ops kind profile).trans (linkMoves_single (s := taken) deft hops elem misplaced fitted none)
  have ports : taken.guardPorts (taken.guardRoutes w false) = [portOf r.d.src n] := by
    simp [State.guardPorts, State.guardRoutes, posn, ops, releases, State.srcOf, taken, deft, node, portOf]
  simp only [State.startPlan, waiting]
  rw [released, checked, moves, if_neg (by simp), if_neg (by simp [kind]), State.enterGuard, ports]
  rfl

/-! ### The two conditions of the guard phase -/

/-- The conditions of R88. -/
theorem guardPasses_iff (s : State) (g : GuardRec) :
    s.guardPasses g = true ↔ (g.handshake = true → s.guard.inhibit = true ∧ s.guard.quiet = true) ∧
      ∀ dn ∈ g.watch, s.guard.dets[dn.1].present = false := by
  cases handshake : g.handshake <;> simp [State.guardPasses, handshake]

theorem guardPasses_false {s : State} {g : GuardRec} (blocked : ¬((g.handshake = true → s.guard.inhibit = true ∧ s.guard.quiet = true) ∧
    ∀ dn ∈ g.watch, s.guard.dets[dn.1].present = false)) : s.guardPasses g = false :=
  Bool.eq_false_iff.mpr fun passes => blocked ((guardPasses_iff s g).mp passes)

/-- The record of a single port. -/
theorem guardRecord_port (s : State) (src : Nat) (n : Machine.Node) :
    s.guardRecord [portOf src n] = ⟨[portOf src n], decide (n.guard.getD .open_ = .handshake ∨ n.guard.getD .open_ = .both),
      (match n.det with
        | some d => if decide (n.guard.getD .open_ = .sense ∨ n.guard.getD .open_ = .both) then [(d, src)] else []
        | none => []), s.now + s.settings.mute, false⟩ := by
  cases det : n.det <;> cases mode : n.guard.getD .open_ <;>
    simp [State.guardRecord, portOf, mode, det, GuardMode.needsQuiet, GuardMode.needsSense]

/-- The conditions of R88 for a single port. -/
theorem guardPasses_port (s t : State) (src : Nat) (n : Machine.Node) : t.guardPasses (s.guardRecord [portOf src n]) = true ↔
    (decide (n.guard.getD .open_ = .handshake ∨ n.guard.getD .open_ = .both) = true → t.guard.inhibit = true ∧ t.guard.quiet = true) ∧
      ∀ d, decide (n.guard.getD .open_ = .sense ∨ n.guard.getD .open_ = .both) = true → n.det = some d →
        t.guard.dets[d].present = false := by
  rw [guardPasses_iff, guardRecord_port]
  refine and_congr Iff.rfl ?_
  cases n.det with
  | none => simp
  | some d => cases decide (n.guard.getD .open_ = .sense ∨ n.guard.getD .open_ = .both) <;> simp

/-- INHIBIT at GUARD entry of a plan that needs the handshake (R88): a release interval keeps it off, unless SAFE holds it. -/
theorem inhibit_guarding (g : GuardUnit) {handshake : Bool} (asks : handshake = true) :
    ({ g with planHold := handshake && g.releaseEnd.isNone, carry := false } : GuardUnit).inhibit = true ↔
      g.releaseEnd = none ∨ g.safeHold = true := by
  simp [GuardUnit.inhibit, asks]

/-! ### Plans that wait and pass -/

/-- A LINK plan, alone in the queue, that must wait in GUARD. -/
theorem instants_of_guardWaits {s t : State} {f : Flight} {w : Plan} (none_flying : s.engine.flight = none)
    (waiting : s.engine.waiting = [w]) (starts : s.startPlan = t) (flying : t.engine.flight = some f) (phase : f.phase = .guard)
    (waits : t.guardPasses f.guard = false) : Instants 1 s t :=
  .step ((instant_of_waiting none_flying waiting).trans (congrArg some starts)) (.done (calm_of_guardWaits flying phase waits))

/-- A LINK plan, alone in the queue, that passes GUARD as it enters it. -/
theorem instants_of_guardPasses {s t u : State} {f g : Flight} {w : Plan} (none_flying : s.engine.flight = none)
    (waiting : s.engine.waiting = [w]) (starts : s.startPlan = t) (flying : t.engine.flight = some f) (phase : f.phase = .guard)
    (passes : t.guardPasses f.guard = true) (enters : t.enterMove = u) (moving : u.engine.flight = some g) (move : g.phase = .move)
    (unresolved : g.moves.all Move.isResolved = false) : Instants 2 s u :=
  .step ((instant_of_waiting none_flying waiting).trans (congrArg some starts))
    (.step ((instant_of_guardPasses flying phase passes).trans (congrArg some enters)) (.done (calm_of_moving moving move unresolved)))

/-! ### Hot events -/

/-- Every exposure of one pulsed element is charged once (R95). -/
theorem chargeExposed_single {s : State} {f : Flight} {m : Move} {x : Element} {retry : Bool} (flying : s.engine.flight = some f)
    (moves : f.moves = [m]) (pulsing : m.prog = .pulsing retry) (uncharged : m.charged = false) (deft : tget s.elems m.elem = some x)
    (cool : x.wear.hot < 65535) :
    s.chargeExposed = ({ s with
      elems := tmod s.elems m.elem (fun y : Element => { y with wear := { y.wear with hot := y.wear.hot + 1 } })
      engine := { s.engine with flight := some { f with moves := [{ m with charged := true }] } } } : State).markWear := by
  have counted : s.countHot m.elem =
      (s.modElem m.elem (fun y => { y with wear := { y.wear with hot := y.wear.hot + 1 } })).markWear := by
    simp only [State.countHot, deft, if_pos cool]
  have exposed : m.exposed = true := by simp [Move.exposed, pulsing]
  have members : f.moves.filter (fun m => m.exposed && !m.charged) = [m] := by simp [moves, exposed, uncharged]
  simp only [State.chargeExposed, flying, members, List.foldl_cons, List.foldl_nil, counted, modFlight_markWear]
  rw [modFlight_eq _ (by exact flying)]
  simp [moves, exposed, State.setFlight, State.modElem]

/-- The plan's first hot event of QUIET (R93, R94). -/
theorem quietFell_first {s : State} {f : Flight} {n : Nat} (flying : s.engine.flight = some f) (phase : f.phase = .move)
    (handshake : f.guard.handshake = true) (first : f.guard.hotReported = false)
    (lowest : ((f.guard.ports.filter (fun g => g.mode.needsQuiet)).map (·.node)).min? = some n) :
    s.quietFell = ((s.notify .hot (vNode n) (vWord "QUIET")).setFlight
      { f with guard := { f.guard with hotReported := true } }).chargeExposed := by
  have watched : f.watched = true := by simp [Flight.watched, phase]
  simp [State.quietFell, flying, watched, handshake, lowest, State.hotEvent, first]

/-! ### The obligation on guard events -/

section
variable {s : State} {f : Flight} {u : State} (flying : s.engine.flight = some f) (phase : f.phase = .guard)
  (passes : s.guardPasses f.guard = true) (enters : s.enterMove = u) (calm : u.calm)
include flying phase passes enters calm

/-- A plan in GUARD whose two conditions are met enters MOVE before anything else. -/
theorem settled_of_guardPasses : s.settled = u :=
  settled_of_instants (n := 1) (.step ((instant_of_guardPasses flying phase passes).trans (congrArg some enters)) (.done calm))

end

/-- A detector below its hysteresis is ABSENT, and nothing is watched for it (R84). -/
theorem judgeDetector_absent {s : State} {d : Fin 8} {c : HalfDb} (present : s.guard.dets[d].present = true)
    (below : c < s.settings.threshold[d] - 2) :
    ({ s with guard := { s.guard with dets := s.guard.dets.set d { s.guard.dets[d] with reading := c } } } : State).judgeDetector d =
      { s with guard := { s.guard with dets := s.guard.dets.set d ⟨c, false⟩ } } := by
  have absent : judgeRf true c s.settings.threshold[d] = false := by simpa [judgeRf] using below
  simp [State.judgeDetector, show s.guard.dets[(d : Nat)].present = true from present,
    show judgeRf true c s.settings.threshold[(d : Nat)] = false from absent]

/-- Settles O54: GUARD entry of a LINK, the passage into MOVE, hot events, the mute timeout and the release interval. -/
theorem guardEventsAct : Obligations.GuardEventsAct := by
  refine ⟨?_, ?_, ?_, ?_, ?_, ?_⟩
  · intro s p e q r x n alone idle none_flying waiting inside deft st hops elem sound fitted misplaced clear fits node mode handshake
      sense watch move flight linked
    have unfaulted : s.inFault e = false := by simpa [State.inFault, elem] using sound
    have accepted := cmdLink_passes inside deft idle st (by simpa [hops] using unfaulted)
    rw [if_neg (Nat.not_lt.2 fits), clear, queueFull_of_room (by simp [waiting])] at accepted
    have queued : ((s.placeLink p []).reply .addressed (.ok [])).engine.waiting = [_] := congrArg (· ++ _) waiting
    have starts := startPlan_guard queued rfl rfl rfl rfl rfl
      (tget_tmod_self (f := fun y : Route => { y with st := .pending }) deft) hops elem sound fitted misplaced node
    have record := guardRecord_port ((s.placeLink p []).reply .addressed (.ok [])) r.d.src n
    have conditions (t : State) := guardPasses_port ((s.placeLink p []).reply .addressed (.ok [])) t r.d.src n
    rw [record] at starts conditions
    refine ⟨fun blocked => ?_, fun quiet absent eml normal sized young unlimited => ?_⟩
    · refine exec_settles alone rfl rfl accepted (n := 1) (instants_of_guardWaits none_flying queued starts (f := flight) rfl rfl ?_)
      refine Bool.eq_false_iff.mpr fun passes => ?_
      obtain ⟨quieted, absent⟩ := (conditions _).mp passes
      rcases blocked with ⟨asks, noisy⟩ | ⟨d, senses, det, present⟩
      · obtain ⟨inhibited, loud⟩ := quieted asks
        have held := (inhibit_guarding s.guard asks).mp inhibited
        rcases noisy with silent | ⟨interval, unsafe_⟩
        · exact Bool.noConfusion (silent.symm.trans loud)
        · exact held.elim interval fun safe => Bool.noConfusion (unsafe_.symm.trans safe)
      · exact Bool.noConfusion ((absent d senses det).symm.trans present)
    · have passes : linked.guardPasses flight.guard = true := by
        refine (conditions _).mpr ⟨fun asks => ?_, absent⟩
        obtain ⟨loud, held⟩ := quiet asks
        exact ⟨(inhibit_guarding s.guard asks).mpr held, loud⟩
      have enters := enterMove_single (s := linked.reply .addressed (.ok [])) (f := flight) (m := move) rfl nofun rfl normal rfl rfl elem
        eml young unlimited sized
      exact exec_settles alone rfl rfl accepted (n := 2)
        (instants_of_guardPasses none_flying queued starts (f := flight) rfl rfl passes enters rfl rfl rfl)
  · intro s f m m2 x x2 still flying phase unsafe_ open_ moves other waiting deft deft2 ss eml unlimited unlimited2 young young2 settles
      normal sized starts started
    have enters (g : GuardUnit) : ({ s with guard := g } : State).enterMove = started g :=
      enterMove_pair (s := { s with guard := g }) flying unsafe_ open_ normal moves other waiting deft deft2 ss eml unlimited unlimited2
        young young2 settles sized
    have calm (g : GuardUnit) : (started g).calm := calm_of_moving rfl rfl rfl
    refine ⟨fun handshake inhibited mute absent => ?_, fun d c quieted others watched present below => ?_⟩
    · let rises : State := { s with guard := { s.guard with quiet := true } }
      have passes : rises.guardPasses f.guard = true := (guardPasses_iff _ _).mpr ⟨fun _ => ⟨inhibited, rfl⟩, absent⟩
      have row : (if s.guard.quiet && !true then rises.quietFell else rises) = rises := by simp
      exact congrArg _ ((during_running (s := rises) still.1 _).trans ((congrArg State.settled row).trans
        (settled_of_guardPasses flying phase passes (enters _) (calm _))))
    · let fades : State := { s with guard := { s.guard with dets := s.guard.dets.set d ⟨readPower c, false⟩ } }
      have acts := judgeDetector_absent (c := readPower c) present below
      have passes : fades.guardPasses f.guard = true := by
        refine (guardPasses_iff _ _).mpr ⟨quieted, fun dn mem => ?_⟩
        by_cases same : dn.1 = d
        · simp [fades, same]
        · have apart : (d : Nat) ≠ dn.1 := fun eq => same (Fin.ext eq.symm)
          simpa [fades, Vector.getElem_set_ne _ _ apart] using (others dn mem).resolve_left same
      exact congrArg _ ((during_running (s := { s with guard := { s.guard with
        dets := s.guard.dets.set d { s.guard.dets[d] with reading := readPower c } } }) still.1 _).trans
        ((congrArg State.settled acts).trans (settled_of_guardPasses (s := fades) flying phase passes (enters _) (calm _))))
  · intro s f m x retry n still quiet flying phase handshake first moves pulsing uncharged deft cool lowest
    let low : State := { s with guard := { s.guard with quiet := false } }
    have fell := quietFell_first (s := low) flying phase handshake first lowest
    have charged := chargeExposed_single (s := (low.notify .hot (vNode n) (vWord "QUIET")).setFlight
      { f with guard := { f.guard with hotReported := true } }) rfl moves pulsing uncharged deft cool
    have acts := fell.trans charged
    have row : (if s.guard.quiet && !false then low.quietFell else low) = low.quietFell := by simp [quiet]
    refine congrArg _ ((during_calm (s := low) still.1 ?_).trans (row.trans acts))
    rw [row, acts]
    exact calm_of_moving rfl phase (by simp [Move.isResolved, pulsing])
  · intro s f id p rel x runs flying phase plan checked waiting idle deft pending t
    have due : s.muteDue = some f.guard.expiry := by simp [State.muteDue, flying, phase]
    let f1 : Flight := { f with guardFailed := true }
    let opened : State := { t.setFlight f1 with guard := { s.guard with planHold := false, releaseEnd := some (t.now + 1000) } }
    have kind : f1.plan.kind = .link := congrArg Plan.kind plan
    have ops : f1.plan.ops = [⟨.link, p, false⟩] := congrArg Plan.ops plan
    have ready := planReady_failed (s := opened) (f := f1) kind ops deft pending (opFailure_guard _ rfl checked rfl)
    have expires : t.muteExpires = opened.planReady f1 := by
      simp only [State.muteExpires, t, State.at_engine, flying]
      rfl
    refine congrArg _ (whenDue_settles runs due (n := 1) ?_)
    rw [show (s.at f.guard.expiry).muteExpires = opened.planReady f1 from expires, ready]
    exact instants_of_ready rfl rfl waiting idle rfl
  · intro s t0 still none_flying due
    have acts : (s.at t0).releaseEnds = { s.at t0 with guard := { s.guard with releaseEnd := none } } := by
      simp [State.releaseEnds, none_flying]
    obtain ⟨waiting, submit, carry⟩ := calm_empty still.2 none_flying
    refine congrArg _ ((whenDue_calm due still.1 ?_).trans acts)
    rw [acts]
    exact calm_of_empty none_flying waiting submit carry
  · intro s f t0 still flying phase handshake quiet due
    have acts : (s.at t0).releaseEnds = { s.at t0 with guard := { s.guard with releaseEnd := none, planHold := true } } := by
      simp [State.releaseEnds, flying, phase, handshake]
    refine congrArg _ ((whenDue_calm due still.1 ?_).trans acts)
    rw [acts]
    exact calm_of_guardWaits flying phase (guardPasses_false fun ⟨quieted, _⟩ => by simp [quiet] at quieted; simp [quieted] at handshake)

end Sys2Proof.Machine
end
-- ==== Sys2Proof/Proofs/HoldLimit.lean ====
section
/-! PROOFS. The hold limit of a plan under CUT (R17, R103), and counted readings (R20, R21). -/

namespace Sys2Proof.Machine

/-! ### Changes of many records -/

theorem tget_of_mem {α : Type} {t : Table α} {k : Nat} {x : α} (sorted : tsorted t) (mem : (k, x) ∈ t) : tget t k = some x := by
  induction t with
  | nil => cases mem
  | cons kv t ih =>
    obtain ⟨j, y⟩ := kv
    obtain ⟨below, sorted⟩ := List.pairwise_cons.mp sorted
    rcases List.mem_cons.mp mem with same | mem
    · obtain ⟨rfl, rfl⟩ := Prod.mk.inj same
      simp [tget]
    · have other : j ≠ k := Nat.ne_of_lt (below _ mem)
      simp [tget, other, ih sorted mem]

/-- A change of a record of a sorted table is a change of the record the table returns. -/
theorem tmod_at {α : Type} {t : Table α} {k : Nat} {x : α} {f g : α → α} (sorted : tsorted t) (deft : tget t k = some x)
    (same : f x = g x) : tmod t k f = tmod t k g :=
  tmod_congr fun y mem => by
    cases (tget_of_mem sorted mem).symm.trans deft
    exact same

/-- A change of a record that a sorted table does not hold. -/
theorem tmod_absent {α : Type} {t : Table α} {k : Nat} (f : α → α) (sorted : tsorted t) (undef : tget t k = none) : tmod t k f = t := by
  refine (List.map_congr_left fun kv mem => ?_).trans (List.map_id t)
  refine if_neg fun key => ?_
  cases (tget_of_mem (k := k) (x := kv.2) sorted (key ▸ mem)).symm.trans undef

theorem tmod_unchanged {α : Type} (t : Table α) (k : Nat) {f : α → α} (unchanged : ∀ x, f x = x) : tmod t k f = t := by
  refine (List.map_congr_left fun kv _ => ?_).trans (List.map_id t)
  split
  · rw [unchanged]; rfl
  · rfl

/-- The elements that a list of moves changes, each by its own move. -/
def changeMoved (w : Move → Element → Element) (ms : List Move) (es : Table Element) : Table Element :=
  es.map (fun kv =>
    match ms.find? (fun m => m.elem = kv.1) with
    | some m => (kv.1, w m kv.2)
    | none => kv)

/-- Changing the elements of distinct moves one after the other. -/
theorem foldl_tmod (w : Move → Element → Element) (ms : List Move) (distinct : ms.Pairwise (fun m n => m.elem ≠ n.elem))
    (es : Table Element) : ms.foldl (fun es m => tmod es m.elem (w m)) es = changeMoved w ms es := by
  induction ms generalizing es with
  | nil => simp [changeMoved]
  | cons m ms ih =>
    obtain ⟨apart, distinct⟩ := List.pairwise_cons.mp distinct
    rw [List.foldl_cons, ih distinct]
    simp only [changeMoved, tmod, List.map_map]
    refine List.map_congr_left fun kv _ => ?_
    by_cases here : m.elem = kv.1
    · have none_left : ms.find? (fun n => n.elem = kv.1) = none := by
        refine List.find?_eq_none.mpr fun n mem same => apart n mem ?_
        exact here.trans (of_decide_eq_true same).symm
      simp [here, none_left]
    · have other : kv.1 ≠ m.elem := fun same => here same.symm
      simp [here, other]

/-! ### Withdrawal -/

/-- The record of an element that the hold limit withdraws (R17). -/
def State.withdrawn (s : State) (m : Move) (y : Element) : Element :=
  match m.prog with
  | .waiting => withdrawUnpulsed (s.senseNow y) y
  | .retryDue _ => withdrawPulsed (s.senseNow y) y
  | _ => y

/-- Moves resolved one after the other. -/
def resolveMoves (ms moves : List Move) : List Move :=
  ms.foldl (fun l m => setMove m.elem (fun m => { m with prog := .resolved }) l) moves

theorem resolveMoves_all (ms moves : List Move) (left : ∀ n ∈ moves, n.isResolved = true ∨ ∃ m ∈ ms, m.elem = n.elem) :
    (resolveMoves ms moves).all Move.isResolved = true := by
  induction ms generalizing moves with
  | nil =>
    refine List.all_eq_true.mpr fun n mem => (left n mem).resolve_right ?_
    rintro ⟨m, mem, _⟩
    cases mem
  | cons m ms ih =>
    refine ih _ fun n mem => ?_
    obtain ⟨o, old, rfl⟩ := List.mem_map.mp mem
    by_cases here : o.elem = m.elem
    · simp [here, Move.isResolved]
    · rw [if_neg here]
      refine (left o old).imp id ?_
      rintro ⟨n, mem, same⟩
      rcases List.mem_cons.mp mem with rfl | mem
      · exact absurd same.symm here
      · exact ⟨n, mem, same⟩

/-- One withdrawal by the hold limit. -/
theorem withdrawMove_eq {s : State} {m : Move} (sorted : tsorted s.elems) (held : m.held = true) :
    withdrawMove s m = (s.modElem m.elem (s.withdrawn m)).resolve m.elem := by
  cases deft : tget s.elems m.elem with
  | none =>
    have unchanged : s.modElem m.elem (s.withdrawn m) = s := by rw [State.modElem, tmod_absent _ sorted deft]
    simp [withdrawMove, deft, unchanged]
  | some x =>
    cases prog : m.prog with
    | waiting =>
      have change := tmod_at (f := withdrawUnpulsed (s.senseNow x)) (g := s.withdrawn m) sorted deft (by simp [State.withdrawn, prog])
      simp only [withdrawMove, deft, prog, State.modElem, change]
    | retryDue since =>
      have change := tmod_at (f := withdrawPulsed (s.senseNow x)) (g := s.withdrawn m) sorted deft (by simp [State.withdrawn, prog])
      simp only [withdrawMove, deft, prog, State.modElem, change]
    | pulsing r => simp [Move.held, prog] at held
    | settling r t => simp [Move.held, prog] at held
    | resolved => simp [Move.held, prog] at held

/-- The withdrawals by the hold limit. -/
theorem withdrawMoves_eq (ms : List Move) (s : State) (f : Flight) (flying : s.engine.flight = some f) (sorted : tsorted s.elems)
    (held : ∀ m ∈ ms, m.held = true) :
    ms.foldl withdrawMove s = { s with
      elems := ms.foldl (fun es m => tmod es m.elem (s.withdrawn m)) s.elems
      engine := { s.engine with flight := some { f with moves := resolveMoves ms f.moves } } } := by
  induction ms generalizing s f with
  | nil => simp [resolveMoves, ← flying]
  | cons m ms ih =>
    have first : withdrawMove s m = { s with
        elems := tmod s.elems m.elem (s.withdrawn m)
        engine := { s.engine with flight := some { f with moves := setMove m.elem (fun m => { m with prog := .resolved }) f.moves } } } := by
      rw [withdrawMove_eq sorted (held m List.mem_cons_self), State.resolve, modFlight_eq _ (by exact flying)]
      rfl
    rw [List.foldl_cons, first, ih _ _ rfl (tsorted_tmod sorted _ _) fun n mem => held n (List.mem_cons_of_mem _ mem)]
    rfl

/-- An element resolved before is left alone. -/
theorem foldl_held {s : State} (ms : List Move) (es : Table Element)
    (begun : ∀ m ∈ ms, m.prog = .resolved ∨ m.prog = .waiting ∨ ∃ since, m.prog = .retryDue since) :
    (ms.filter Move.held).foldl (fun es m => tmod es m.elem (s.withdrawn m)) es =
      ms.foldl (fun es m => tmod es m.elem (s.withdrawn m)) es := by
  rw [List.foldl_filter]
  refine List.foldl_ext _ _ _ fun es m mem => ?_
  rcases begun m mem with prog | prog | ⟨since, prog⟩
  · rw [tmod_unchanged _ _ fun y => by simp [State.withdrawn, prog]]
    simp
  · simp [Move.held, prog]
  · simp [Move.held, prog]

/-- The hold limit of a plan with every element resolved, not begun or waiting for its retry (R103). -/
theorem holdExpires_eq {s : State} {f : Flight} (flying : s.engine.flight = some f) (sorted : tsorted s.elems)
    (ascending : f.moves.Pairwise (fun m n => m.elem < n.elem))
    (begun : ∀ m ∈ f.moves, m.prog = .resolved ∨ m.prog = .waiting ∨ ∃ since, m.prog = .retryDue since) :
    s.holdExpires = { s with
      elems := changeMoved s.withdrawn f.moves s.elems
      engine := { s.engine with flight := some { f with
        holdExpired := true, holdLimit := none, moves := resolveMoves (f.moves.filter Move.held) f.moves } } } := by
  have withdrawn := withdrawMoves_eq (f.moves.filter Move.held) (s.setFlight { f with holdExpired := true, holdLimit := none })
    { f with holdExpired := true, holdLimit := none } rfl sorted fun m mem => (List.mem_filter.mp mem).2
  have elems := (foldl_held (s := s) f.moves s.elems begun).trans
    (foldl_tmod s.withdrawn f.moves (distinct_of_ascending ascending (List.Sublist.refl _)) s.elems)
  simp only [State.holdExpires, flying]
  rw [withdrawn, ← elems]
  rfl

/-- What the withdrawal leaves of an element, spelled out (R17). -/
theorem withdrawn_eq (s : State) (m : Move) (y : Element) :
    s.withdrawn m y =
      match m.prog, y.st with
      | .waiting, .moving _ former => { y with
          st := former.toState, sense := if y.sense.isSome then some (s.reading y.d) else none, counting := none }
      | .retryDue _, .moving target former =>
        let pos := match (if y.sense.isSome then some (s.reading y.d) else none) with
          | some (.pos q) => some q
          | some .nothing => none
          | none => some target
        { y with
          pos := pos
          st := if former = .fault then .fault else if pos = none then .unknown else .idle
          sense := if y.sense.isSome then some (s.reading y.d) else none, counting := none }
      | _, _ => y := by
  unfold State.withdrawn
  cases m.prog with
  | waiting => cases st : y.st <;> simp [withdrawUnpulsed, st, State.senseNow]
  | retryDue since =>
    cases st : y.st with
    | moving target former =>
      simp only [withdrawPulsed, st, State.senseNow]
      by_cases sensed : y.sense.isSome = true
      · obtain reads | ⟨q, reads⟩ : s.reading y.d = .nothing ∨ ∃ q, s.reading y.d = .pos q := by cases s.reading y.d <;> simp
        · simp [sensed, reads, Reading.asPos]
        · simp [sensed, reads, Reading.asPos]
      · simp [sensed]
    | idle => simp [withdrawPulsed, st]
    | unknown => simp [withdrawPulsed, st]
    | fault => simp [withdrawPulsed, st]
  | pulsing r => rfl
  | settling r t => rfl
  | resolved => rfl

/-! ### Counted readings -/

/-- The counted reading of an IDLE element is drift (R20). -/
theorem countReading_idle {s : State} {e : Nat} {x : Element} {r : Reading} {t : Micros} (deft : tget s.elems e = some x)
    (idle : x.st = .idle) (counting : x.counting = some (r, t)) :
    s.countReading e = ((s.modElem e (takeReading r)).driftNotice e x.pos r.asPos).breakClaims .drift e := by
  simp [State.countReading, deft, idle, counting]

theorem countDue_idle {s : State} {e : Nat} {x : Element} {r : Reading} {t : Micros} (deft : tget s.elems e = some x)
    (idle : x.st = .idle) (counting : x.counting = some (r, t)) : s.countDue e = some t := by
  simp [State.countDue, deft, idle, counting]

/-- The one route claiming an element is broken. -/
theorem breakClaims_single {s : State} {e p : Nat} (c : Cause) (claim : s.claims e = [p]) : s.breakClaims c e = s.breakRoute c p := by
  simp [State.breakClaims, claim]

/-- Settles O57: the hold limit withdraws the move set and the plan is ready, and a counted reading is drift. -/
theorem holdLimitAndDrift : Obligations.HoldLimitAndDrift := by
  refine ⟨?_, ?_⟩
  · intro s f id p rel x t0 runs flying phase plan checked guarded limit cut waiting idle deft pending sorted ascending begun present
      withdrawn t u
    have due : s.holdDue = some t0 := by simp [State.holdDue, flying, phase, cut, limit]
    let f1 : Flight := { f with holdExpired := true, holdLimit := none, moves := resolveMoves (f.moves.filter Move.held) f.moves }
    let v : State := { t with elems := changeMoved s.withdrawn f.moves s.elems, engine := { s.engine with flight := some f1 } }
    have expires : t.holdExpires = v := holdExpires_eq (s := t) flying sorted ascending begun
    have resolved : f1.moves.all Move.isResolved = true := by
      refine resolveMoves_all _ _ fun m mem => ?_
      rcases begun m mem with prog | prog | ⟨since, prog⟩
      · exact .inl (by simp [Move.isResolved, prog])
      · exact .inr ⟨m, List.mem_filter.mpr ⟨mem, by simp [Move.held, prog]⟩, rfl⟩
      · exact .inr ⟨m, List.mem_filter.mpr ⟨mem, by simp [Move.held, prog]⟩, rfl⟩
    have kind : f1.plan.kind = .link := congrArg Plan.kind plan
    have ops : f1.plan.ops = [⟨.link, p, false⟩] := congrArg Plan.ops plan
    have elems : v.elems = u.elems := by
      refine List.map_congr_left fun kv _ => ?_
      cases f.moves.find? (fun m => m.elem = kv.1) with
      | none => rfl
      | some m => exact congrArg (Prod.mk kv.1) (withdrawn_eq s m kv.2)
    have hops : v.hopsOf p = x.d.hops := hopsOf_defined deft
    have failure := opFailure_link (s := v) (f := f1) ⟨.link, p, false⟩ rfl checked guarded
    rw [hops] at failure
    have chain {w : State} (ends : Instants 1 (v.planReady f1) w) : exec .holdLimitExpiry s = .next w :=
      congrArg _ (whenDue_settles runs due (n := 2) (expires ▸ .step (instant_of_resolved rfl phase resolved) ends))
    have inPlace : u.inPlace = v.inPlace := by unfold State.inPlace; rw [elems]
    refine ⟨fun placed => chain ?_, fun misplaced => chain ?_⟩
    · have succeeds := failure.trans (if_pos (List.all_eq_true.mpr (inPlace ▸ placed)))
      rw [planReady_linked (s := v) kind ops deft pending succeeds]
      refine instants_of_ready rfl rfl waiting idle ?_
      rw [← elems]
      rfl
    · obtain ⟨h, mem, out⟩ := misplaced
      have fails : v.opFailure f1 ⟨.link, p, false⟩ = some .supply := by
        refine failure.trans ((if_neg fun all => ?_).trans (if_pos rfl))
        have placed := List.all_eq_true.mp all h mem
        rw [← inPlace, out] at placed
        cases placed
      rw [planReady_failed (s := v) kind ops deft pending fails]
      refine instants_of_ready rfl rfl waiting idle ?_
      rw [← elems]
      rfl
  · intro s e x r t0 still deft idle counting t after
    have due := countDue_idle deft idle counting
    have acts := countReading_idle (s := t) deft idle counting
    refine ⟨fun unclaimed => ?_, fun p claim => ?_⟩
    · have unbroken := breakClaims_unclaimed (s := (t.modElem e (takeReading r)).driftNotice e x.pos r.asPos) .drift unclaimed
      exact congrArg _ (whenDue_writes still due (acts.trans unbroken))
    · have broken := breakClaims_single (s := (t.modElem e (takeReading r)).driftNotice e x.pos r.asPos) .drift claim
      exact congrArg _ (whenDue_writes still due (acts.trans broken))

end Sys2Proof.Machine
end
-- ==== Sys2Proof/Proofs/SequencerTimers.lean ====
section
/-! PROOFS. The timers of the sequencer (R138, R147) and the plan ready of a step's plan (R145, R146, R89). -/

namespace Sys2Proof.Machine

/-! ### Timed events of the sequencer -/

/-- A timed event that changes the run, and asks for no submission. -/
theorem whenDue_run {s u : State} {due : Option Micros} {t : Micros} {go : State → State} (still : s.still) (hdue : due = some t)
    (acts : go (s.at t) = u) (submit : u.toSubmit = none) (engine : u.engine = s.engine := by rfl) (guard : u.guard = s.guard := by rfl) :
    s.whenDue due go = u :=
  (whenDue_calm hdue still.1 (acts ▸ calm_of_run still.2 (fun _ => submit) engine guard)).trans acts

/-- A timed event, with whatever is due after it. -/
theorem whenDue_settled {s u : State} {due : Option Micros} {t : Micros} {go : State → State} (runs : s.life = .running)
    (hdue : due = some t) (acts : go (s.at t) = u) : s.whenDue due go = u.settled := by
  simp only [State.whenDue, hdue]
  exact (if_pos runs).trans (congrArg State.settled acts)

section
variable {s : State} {r : Run} {l : ListRec} (armed : s.seq = some r) (listed : tget s.settings.lists r.list = some l)
include armed listed

theorem windowDue_of {since : Micros} (mode : r.mode = .waiting) (window : s.timers.window = .running since) (late : l.late ≠ 0) :
    s.windowDue = some (since + l.late) := by
  simp [State.windowDue, armed, runList_of listed, mode, window, late]

theorem windowCloses_halt (halt : l.lateForce = false) :
    s.windowCloses = ((s.stopWindow l.late).notify .late (vStep r.step) (vNum l.late)).enterHalted r .wait "LATE" := by
  simp [State.windowCloses, armed, runList_of listed, halt]

theorem windowCloses_force (force : l.lateForce = true) :
    s.windowCloses = ((s.stopWindow l.late).notify .late (vStep r.step) (vNum l.late)).enterSwitching r := by
  simp [State.windowCloses, armed, runList_of listed, force]

end

/-! ### The end of a step -/

/-- The outputs when a step ends, before its level drives fall: a pulse output with moment END fires (R147, R160). -/
def State.endOuts (s : State) (st : StepRec) : Vector OutDrive 4 :=
  match st.act with
  | some a =>
    if a.atReady = false ∧ s.settings.widths[a.out] ≠ 0 then
      s.timers.outs.set a.out (.pulse (s.now + s.settings.widths[a.out])) else s.timers.outs
  | none => s.timers.outs

theorem outEnd_eq (s : State) (n : Nat) (st : StepRec) :
    s.outEnd n st = { s with timers := { s.timers with outs := (s.endOuts st).map (lowerLevel n) } } := by
  unfold State.outEnd State.endOuts
  cases st.act with
  | none => rfl
  | some a =>
    dsimp only
    split <;> rfl

/-- The state in which the step after one that ends becomes current: its outputs have acted and the dwell timer is stopped. -/
def State.stepOver (s : State) (n : Nat) (st : StepRec) : State :=
  { s with timers := { s.timers with outs := (s.endOuts st).map (lowerLevel n), dwell := .stopped } }

/-- The step after one that is not the last of the last pass (R147). -/
def nextRun (l : ListRec) (r : Run) : Run :=
  if r.step < l.last then { r with step := r.step + 1, chosen := none }
  else { r with step := l.first, pass := if l.passes = 0 then (r.pass + 1) % 65536 else r.pass + 1, chosen := none }

theorem nextRun_trigger (l : ListRec) (r : Run) : (nextRun l r).trigger = r.trigger := by
  unfold nextRun
  split <;> rfl

section
variable {s : State} {r : Run} {l : ListRec} {st : StepRec} (listed : tget s.settings.lists r.list = some l)
  (defined_ : tget s.settings.steps r.step = some st)
include listed defined_

theorem stepEnd_next (more : r.step < l.last ∨ l.passes = 0 ∨ r.pass + 1 < l.passes) :
    s.stepEnd r = (s.stepOver r.step st).makeCurrent (nextRun l r) := by
  unfold State.stepEnd nextRun
  simp only [runList_of listed, runStep_of defined_, outEnd_eq]
  by_cases within : r.step < l.last
  · simp only [if_pos within]
    rfl
  · by_cases endless : l.passes = 0
    · simp only [if_neg within, if_pos endless]
      rfl
    · have further : r.pass + 1 < l.passes := (more.resolve_left within).resolve_left endless
      simp only [if_neg within, if_neg endless, if_pos further]
      rfl

theorem stepEnd_last (last : l.last ≤ r.step) (passes : l.passes ≠ 0) (done : l.passes ≤ r.pass + 1) :
    s.stepEnd r = ((s.stepOver r.step st).notify .listend (vId .l r.list) (vNum l.passes)).returnIdle := by
  unfold State.stepEnd
  simp only [runList_of listed, runStep_of defined_, outEnd_eq, if_neg (Nat.not_lt.mpr last), if_neg passes, if_neg (Nat.not_lt.mpr done)]
  rfl

end

theorem dwellDue_of {s : State} {r : Run} {t : Micros} (armed : s.seq = some r) (mode : r.mode = .dwell)
    (running : s.timers.dwell = .running t) : s.dwellDue = some t := by
  simp [State.dwellDue, armed, mode, running]

theorem dwellExpires_armed {s : State} {r : Run} (armed : s.seq = some r) : s.dwellExpires = s.stepEnd r := by
  simp [State.dwellExpires, armed]

/-! ### Plan ready of a step's plan -/

section
variable {s : State} {f : Flight} {p : Nat} {x : Route} (kind : f.plan.kind = .step) (ops : f.plan.ops = [⟨.link, p, false⟩])
  (posn : f.plan.posn = none) (deft : tget s.routes p = some x) (pending : x.st = .pending)
include kind ops posn deft pending

/-- The op of a step's plan succeeds: the route is held, and the sequencer takes the result. -/
theorem planReady_step_linked (succeeds : s.opFailure f ⟨.link, p, false⟩ = none) :
    s.planReady f = ({ s with
      routes := tmod s.routes p (fun y : Route => { y with st := .held, outcome := some .ok })
      held := s.held ++ [p]
      engine := { s.engine with flight := none }
      guard := s.guard.atReady false } : State).stepPlanReady none := by
  simp [State.planReady, State.reportOps, State.reportPlan, kind, ops, posn, succeeds, State.applyOutcome, deft, pending, State.opNotice]

theorem planReady_step_failed {c : Cause} (fails : s.opFailure f ⟨.link, p, false⟩ = some c) :
    s.planReady f = ({ s with
      routes := tmod s.routes p (fun y : Route => { y with st := .idle, outcome := some (.failed c), mark := none })
      engine := { s.engine with flight := none }
      guard := s.guard.atReady false
      notices := queueNotice s.notices ⟨.fail, s.noticeTime, vRoute p, vWord (causeText c)⟩ } : State).stepPlanReady (some c) := by
  simp [State.planReady, State.reportOps, State.reportPlan, kind, ops, posn, fails, State.applyOutcome, deft, pending, State.opNotice]
  rfl

end

section
variable {s : State} {r : Run} {due : Option Due} {b : Bool} (armed : s.seq = some { r with mode := .switching b due })
include armed

theorem stepPlanReady_abort (fail : Option Cause) (abort : due = some .abort) :
    s.stepPlanReady fail = (s.notify .halt (vStep r.step) (vWord "ABORT")).returnIdle := by
  simp [State.stepPlanReady, armed, abort]

theorem stepPlanReady_fail (c : Cause) (open_ : due ≠ some .abort) : s.stepPlanReady (some c) = s.enterHalted r .retry "FAIL" := by
  simp [State.stepPlanReady, armed, open_]
  rfl

end

/-- The outputs after a step's plan ready: level mode raises one, pulse mode fires a READY action (R160, R161). -/
def State.readyOuts (s : State) (n : Nat) (st : StepRec) : Vector OutDrive 4 :=
  match st.act with
  | some a =>
    if s.settings.widths[a.out] = 0 then s.timers.outs.set a.out (.level n)
    else if a.atReady then s.timers.outs.set a.out (.pulse (s.now + s.settings.widths[a.out])) else s.timers.outs
  | none => s.timers.outs

theorem outReady_eq (s : State) (n : Nat) (st : StepRec) :
    s.outReady n st = { s with timers := { s.timers with outs := s.readyOuts n st } } := by
  unfold State.outReady State.readyOuts
  cases st.act with
  | none => rfl
  | some a =>
    dsimp only
    split
    · rfl
    · split <;> rfl

/-- The state after a step's READY action and its STEP notice (R145). -/
def State.stepReported (s : State) (r : Run) (st : StepRec) : State :=
  { s with
    timers := { s.timers with outs := s.readyOuts r.step st }
    notices := if st.rep then queueNotice s.notices ⟨.step, s.noticeTime, vStep r.step, s.stepDetail r st⟩ else s.notices }

theorem reported_eq (s : State) (r : Run) (st : StepRec) :
    (if st.rep then (s.outReady r.step st).notify .step (vStep r.step) ((s.outReady r.step st).stepDetail r st)
      else s.outReady r.step st) = s.stepReported r st := by
  rw [outReady_eq, State.stepReported]
  cases st.rep <;> rfl

section
variable {s : State} {r : Run} {due : Option Due} {b : Bool} {st : StepRec} {l : ListRec}
  (armed : s.seq = some { r with mode := .switching b due }) (listed : tget s.settings.lists r.list = some l)
  (defined_ : tget s.settings.steps r.step = some st)
include armed listed defined_

theorem stepPlanReady_halt (halt : due = some .halt) :
    s.stepPlanReady none =
      (s.stepReported r st).enterHalted { r with chosen := some (chooseDwell st l r.pass) } .dwell "HALT" := by
  have step : s.runStep { r with mode := .switching b due } = st := runStep_of defined_
  have list : s.runList { r with mode := .switching b due } = l := runList_of listed
  have reported := reported_eq s { r with mode := .switching b due } st
  subst halt
  simp only [State.stepPlanReady, armed, step, list, reported, Option.isSome_none, if_true, if_false, reduceCtorEq, Option.some.injEq,
    Bool.false_eq_true]
  rfl

theorem stepPlanReady_dwell (undue : due = none) (dwells : chooseDwell st l r.pass ≠ 0) :
    s.stepPlanReady none = ({ s.stepReported r st with
      seq := some { r with mode := .dwell, chosen := some (chooseDwell st l r.pass) } } : State).loadDwell (chooseDwell st l r.pass) := by
  have step (u : State) (same : u.settings = s.settings) : u.runStep { r with mode := .switching b due } = st :=
    runStep_of (same ▸ defined_)
  have list (u : State) (same : u.settings = s.settings) : u.runList { r with mode := .switching b due } = l :=
    runList_of (same ▸ listed)
  have reported := reported_eq s { r with mode := .switching b due } st
  subst undue
  simp only [State.stepPlanReady, armed, step s rfl, reported, Option.isSome_none, if_false, reduceCtorEq, Bool.false_eq_true,
    State.beginDwell]
  rw [step (s.stepReported _ st) rfl, list (s.stepReported _ st) rfl]
  exact if_neg dwells

end

/-- Plan ready of a step's plan with no plan waiting: the chain ends with the hold. -/
theorem instants_of_step {s u : State} {g : GuardUnit} (guard : u.guard = g.atReady false) (none_flying : u.engine.flight = none)
    (waiting : u.engine.waiting = []) (submit : u.toSubmit = none)
    (ends : { u with guard := { g with planHold := false, carry := false } } = s) : Instants 1 u s := by
  have chain := instants_of_carry none_flying waiting submit
  rw [guard, atReady_dropped, ends] at chain
  exact chain

/-! ### The last element of a plan -/

/-- The arrival of the one unsensed element of a plan makes the plan ready (R15, R63, R66). -/
theorem elementReady_last {s w : State} {f : Flight} {m : Move} {y : Element} {retry : Bool} {t0 : Micros} {n : Nat}
    (runs : s.life = .running) (flying : s.engine.flight = some f) (phase : f.phase = .move) (moves : f.moves = [m])
    (settling : m.prog = .settling retry t0) (deft : tget s.elems m.elem = some y) (unsensed : y.sense = none) (fits : n + 1 ≤ 8)
    (rest : Instants n (({ s.at t0 with
      elems := tmod s.elems m.elem (arrive m.target none)
      engine := { s.engine with flight := some { f with moves := [{ m with prog := .resolved }] } } } : State).planReady
        { f with moves := [{ m with prog := .resolved }] }) w) :
    exec (.elementReady m.elem) s = .next w := by
  have due := readyDue_first flying moves settling
  have ready := readyNow_first (s := s.at t0) flying moves settling
  have verified := verify_unsensed (s := s.at t0) (target := m.target) deft retry unsensed
  refine congrArg _ (whenDue_settles runs due (n := n + 1) ?_ fits)
  rw [ready, verified, State.resolve, modFlight_eq _ (by exact flying)]
  simp only [moves, setMove, List.map_cons, List.map_nil, if_true]
  exact .step (instant_of_resolved rfl phase rfl) rest

/-! ### The report of a step -/

/-- Losses are not a matter of an element's position. -/
theorem connLosses_arrive {s t : State} {e target : Nat} {r : Option Reading} (elems : t.elems = tmod s.elems e (arrive target r)) :
    t.connLosses = s.connLosses := by
  funext k c
  unfold State.connLosses
  rw [elems, tget_tmod]
  by_cases here : k = e
  · cases tget s.elems k <;> simp [here, arrive]
  · rw [if_neg here]

theorem routeLoss_congr {s t : State} {x y : Route} (f : Nat) (losses : t.connLosses = s.connLosses) (nodes : t.nodes = s.nodes)
    (settings : t.settings = s.settings) (hops : y.d.hops = x.d.hops) (conns : y.conns = x.conns) (visits : y.nodes = x.nodes) :
    t.routeLoss y f = s.routeLoss x f := by
  simp only [State.routeLoss, State.lossTerms, State.nodeLosses, losses, nodes, settings, hops, conns, visits]

/-- The detail of a STEP notice of a step with one link op (R121, R145). -/
theorem stepDetail_link {s : State} {r : Run} {l : ListRec} {st : StepRec} {p : Nat} {x : Route}
    (listed : tget s.settings.lists r.list = some l) (ops : st.ops = [⟨.link, p⟩]) (deft : tget s.routes p = some x) :
    s.stepDetail r st = if l.freq = none then vNum r.pass else vJoin ':' [vNum r.pass, vNum (s.routeLoss x (l.freq.getD 0))] := by
  cases freq : l.freq <;> simp [State.stepDetail, runList_of listed, ops, freq, deft]

/-- Settles O59: the timed events of a run, then plan ready of a step's plan, by what is due and by its result. -/
theorem sequencerTimersAct : Obligations.SequencerTimersAct := by
  refine ⟨fun s r l still armed listed => ⟨?_, ?_⟩, ?_⟩
  · intro since mode window late t lateNotice
    have due := windowDue_of armed listed mode window late
    refine ⟨fun halt => ?_, fun force => ?_⟩
    · exact congrArg _ (whenDue_run still due (windowCloses_halt (s := t) armed listed halt) (toSubmit_of_mode rfl (by simp)))
    · exact congrArg _ (whenDue_settled still.1 due (windowCloses_force (s := t) armed listed force))
  · intro t0 st mode dwell defined_ t fired next
    have due := dwellDue_of armed mode dwell
    have expires : t.dwellExpires = t.stepEnd r := dwellExpires_armed armed
    refine ⟨fun st' more next_ => ⟨fun waits untriggered => ?_, fun auto => ?_⟩, fun last passes done => ?_⟩
    · have ends := expires.trans (stepEnd_next (s := t) listed defined_ more)
      have nextOf : nextRun l r = next := rfl
      have still_untriggered : next.trigger = none := by rw [← nextOf, nextRun_trigger, untriggered]
      rw [nextOf, makeCurrent_waits (s := t.stepOver r.step st) next_ waits still_untriggered] at ends
      exact congrArg _ (whenDue_run still due ends (toSubmit_of_mode rfl (by simp)))
    · have ends := expires.trans (stepEnd_next (s := t) listed defined_ more)
      have nextOf : nextRun l r = next := rfl
      rw [nextOf, makeCurrent_auto (s := t.stepOver r.step st) next_ auto] at ends
      exact congrArg _ (whenDue_settled still.1 due ends)
    · exact congrArg _ (whenDue_run still due (expires.trans (stepEnd_last (s := t) listed defined_ last passes done)) (toSubmit_of_idle rfl))
  · intro s r l st due f id p e q x y ovr runs armed listed defined_ opsOf flying plan waiting checked deft pending hops elem unsensed step
      dwell loss idle
    have kind : f.plan.kind = .step := congrArg Plan.kind plan
    have ops : f.plan.ops = [⟨.link, p, false⟩] := congrArg Plan.ops plan
    have posn : f.plan.posn = none := congrArg Plan.posn plan
    refine ⟨?_, ?_⟩
    · intro m t0 retry phase guarded moves elemOf target settling t ready outs notices
      subst elemOf target
      let f1 : Flight := { f with moves := [{ m with prog := .resolved }] }
      let v : State := { t with elems := tmod s.elems m.elem (arrive m.target none), engine := { s.engine with flight := some f1 } }
      let u : State := { ready with guard := v.guard.atReady false }
      have arrived : tget v.elems m.elem = some (arrive m.target none y) := tget_tmod_self elem
      have succeeds : v.opFailure f1 ⟨.link, p, false⟩ = none :=
        opFailure_inPlace checked guarded deft (by simp [hops, State.inPlace, arrived, arrive])
      have linked : v.planReady f1 = u.stepPlanReady none := planReady_step_linked (s := v) kind ops posn deft pending succeeds
      have held : tget u.routes p = some { x with st := .held, outcome := some .ok } :=
        tget_tmod_self (f := fun z : Route => { z with st := .held, outcome := some .ok }) deft
      have detail : u.stepDetail r st = if l.freq = none then vNum r.pass else loss := by
        have same : u.routeLoss { x with st := .held, outcome := some .ok } (l.freq.getD 0) = s.routeLoss x (l.freq.getD 0) :=
          routeLoss_congr _ (connLosses_arrive (t := u) rfl) rfl rfl rfl rfl rfl
        rw [stepDetail_link (s := u) listed opsOf held, same]
      have reported : u.stepReported r st = { u with timers := { s.timers with outs := outs }, notices := notices } := by
        rw [State.stepReported, detail]
        rfl
      have acts {w : State} (ends : Instants 1 (u.stepPlanReady none) w) : exec (.elementReady m.elem) s = .next w :=
        elementReady_last runs flying phase moves settling elem unsensed (n := 1) (by decide) (linked ▸ ends)
      refine ⟨fun undue dwells => acts ?_, fun halt => acts ?_, fun abort => acts ?_⟩
      · rw [stepPlanReady_dwell (s := u) armed listed defined_ undue dwells, reported]
        exact instants_of_step rfl rfl waiting (toSubmit_of_mode rfl (by simp)) rfl
      · rw [stepPlanReady_halt (s := u) armed listed defined_ halt, reported]
        exact instants_of_step rfl rfl waiting (toSubmit_of_mode rfl (by simp)) rfl
      · rw [stepPlanReady_abort (s := u) armed none abort]
        exact instants_of_step rfl rfl waiting (toSubmit_of_idle rfl) rfl
    · intro phase open_ t
      have mute : s.muteDue = some f.guard.expiry := by simp [State.muteDue, flying, phase]
      let f1 : Flight := { f with guardFailed := true }
      let opened : State := { t.setFlight f1 with guard := { s.guard with planHold := false, releaseEnd := some (t.now + 1000) } }
      have failed := planReady_step_failed (s := opened) (f := f1) kind ops posn deft pending (opFailure_guard _ rfl checked rfl)
      have expires : t.muteExpires = opened.planReady f1 := by
        simp only [State.muteExpires, t, State.at_engine, flying]
        rfl
      refine congrArg _ (whenDue_settles runs mute (n := 1) ?_)
      rw [show (s.at f.guard.expiry).muteExpires = opened.planReady f1 from expires, failed]
      rw [stepPlanReady_fail (r := r) (due := due) (b := true) (by exact armed) .guard open_]
      exact instants_of_step rfl rfl waiting (toSubmit_of_mode rfl (by simp)) rfl

end Sys2Proof.Machine
end
-- ==== Sys2Proof/Proofs/SafeWork.lean ====
section
/-! PROOFS. SAFE (R78, R134): the work it leaves is its own plan, behind a cut one at most, and no instant after it takes up any
other. -/

namespace Sys2Proof.Machine

/-! ### Work left by SAFE -/

/-- A SAFE plan, which has no ops. -/
def Plan.isSafe (p : Plan) : Prop := p.kind = .safe ∧ p.ops = []

/-- The work a state holds is SAFE's: no list is armed, no route is held, every plan waiting is a SAFE plan, and so is the plan in
flight, unless it is cut. The timers stand as they are. -/
structure State.safeWork (u : Timers) (s : State) : Prop where
  idle : s.seq = none
  held : s.held = []
  timers : s.timers = u
  waiting : ∀ p ∈ s.engine.waiting, p.isSafe
  flight : ∀ f, s.engine.flight = some f → f.plan.isSafe ∨ f.phase = .cut

section
variable {s t : State} {u : Timers}

/-- SAFE's work, with no plan in flight any more. -/
theorem State.safeWork.landed (work : s.safeWork u) (landed : t.engine.flight = none) (seq : t.seq = s.seq := by rfl)
    (held : t.held = s.held := by rfl) (timers : t.timers = s.timers := by rfl)
    (waiting : t.engine.waiting = s.engine.waiting := by rfl) : t.safeWork u where
  idle := seq.trans work.idle
  held := held.trans work.held
  timers := timers.trans work.timers
  waiting := waiting.symm ▸ work.waiting
  flight f flying := by cases landed.symm.trans flying

/-- The engine's work on a SAFE plan is SAFE's. -/
theorem Work.safeWork (h : Work s t) (work : s.safeWork u) (safe : ∀ f, s.engine.flight = some f → f.plan.isSafe) : t.safeWork u where
  idle := h.seq.trans work.idle
  held := List.sublist_nil.mp (work.held ▸ h.held)
  timers := h.timers.trans work.timers
  waiting := h.waiting.symm ▸ work.waiting
  flight f flying := by
    have plan := h.plan
    rw [flying] at plan
    obtain ⟨g, before, same⟩ := Option.map_eq_some_iff.mp plan.symm
    exact .inl ((show g.plan = f.plan from same) ▸ safe g before)

/-- Plan ready of a SAFE plan. -/
theorem planReady_safe {f : Flight} (safe : f.plan.isSafe) :
    s.planReady f = { s.notify .done [] (vNum (s.unsafeCount f)) with
      engine := { s.engine with flight := none }
      guard := s.guard.atReady true } := by
  obtain ⟨kind, ops⟩ := safe
  simp [State.planReady, State.reportOps, State.reportPlan, kind, ops]

theorem planReady_safeWork {f : Flight} (work : s.safeWork u) (safe : f.plan.isSafe) : (s.planReady f).safeWork u := by
  rw [planReady_safe safe]
  exact work.landed rfl

/-- A SAFE plan starts: it is over at once, or enters MOVE. -/
theorem startPlan_safeWork {p : Plan} {ps : List Plan} (work : s.safeWork u) (none_flying : s.engine.flight = none)
    (waiting : s.engine.waiting = p :: ps) : s.startPlan.safeWork u := by
  obtain ⟨safe, rest⟩ := List.forall_mem_cons.mp (waiting ▸ work.waiting)
  have taken : ({ s with engine := { s.engine with waiting := ps } } : State).safeWork u :=
    ⟨work.idle, work.held, work.timers, rest, work.flight⟩
  have released := (releasePhase_work _ p).safeWork taken fun f flying => by cases none_flying.symm.trans flying
  have flies (f : Flight) (plan : f.plan = p) (g : GuardUnit) :
      ({ ({ s with engine := { s.engine with waiting := ps } } : State).releasePhase p |>.setFlight f with guard := g } : State).safeWork u :=
    ⟨released.idle, released.held, released.timers, released.waiting, fun f' flying => by cases flying; exact .inl (plan ▸ safe)⟩
  simp only [State.startPlan, waiting]
  split
  · exact flies _ rfl _
  · rw [if_pos safe.1]
    exact (enterMove_work _).safeWork (flies _ rfl _) fun f flying => by cases flying; exact safe

/-- Every instant leaves SAFE's work. -/
theorem instant_safeWork (work : s.safeWork u) (next : s.instant = some t) : t.safeWork u := by
  unfold State.instant at next
  split at next
  next f flying =>
    have safe (uncut : f.phase ≠ .cut) : f.plan.isSafe := (work.flight f flying).resolve_right uncut
    unfold State.flightInstant at next
    split at next
    next phase =>
      cases next
      exact planReady_safeWork work (safe (by simp [phase]))
    next phase =>
      split at next <;> cases next
      exact planReady_safeWork work (safe (by simp [phase]))
    next phase =>
      split at next <;> cases next
      exact (enterMove_work s).safeWork work fun g flying' => by
        cases flying.symm.trans flying'
        exact safe (by simp [phase])
    next phase =>
      split at next <;> cases next
      exact work.landed rfl
    next => cases next
  next none_flying =>
    split at next
    next p ps waiting =>
      cases next
      exact startPlan_safeWork work none_flying waiting
    next =>
      rw [toSubmit_of_idle work.idle] at next
      dsimp only at next
      split at next <;> cases next
      exact work.landed none_flying

theorem settled_safeWork (work : s.safeWork u) : s.settled.safeWork u :=
  settled_induct (fun t => t.safeWork u) (fun _ _ work next => instant_safeWork work next) work

end

/-! ### What SAFE does first -/

/-- The run ends: the timers are those of IDLE (R134). -/
theorem endRun_seq (s : State) (c : String) : (s.endRun c).seq = none := by
  cases armed : s.seq <;> simp [State.endRun, armed, State.returnIdle]

theorem endRun_timers {s : State} (c : String) (armed : s.seq ≠ none) : (s.endRun c).timers.outs = Vector.replicate 4 .off ∧
    (s.endRun c).timers.pace.phase = .stopped ∧ (s.endRun c).timers.dwell = .stopped ∧ (s.endRun c).timers.latch = .empty := by
  obtain ⟨r, armed⟩ := Option.ne_none_iff_exists'.mp armed
  simp [State.endRun, armed, State.returnIdle, stopPace]

/-- Withdrawals leave the phase of the plan in flight. -/
theorem withdrawMoves_phase (ms : List Move) (s : State) :
    (ms.foldl withdrawMove s).engine.flight.map (·.phase) = s.engine.flight.map (·.phase) := by
  refine foldl_keeps (fun t => t.engine.flight.map (·.phase)) ms s fun t m => ?_
  have resolved (v : State) (e : Nat) : (v.resolve e).engine.flight.map (·.phase) = v.engine.flight.map (·.phase) := by
    rw [State.resolve, modFlight_flight, Option.map_map]
    rfl
  unfold withdrawMove
  split
  · exact resolved _ _
  · split
    · exact resolved _ _
    · split
      · exact resolved _ _
      · exact resolved _ _
    · exact resolved _ _
    · rfl

/-- The cut leaves a plan in flight cut (R76). -/
theorem cutFlight_phase {s : State} {f : Flight} (flying : s.cutFlight.engine.flight = some f) : f.phase = .cut := by
  unfold State.cutFlight at flying
  split at flying
  next none_flying => cases none_flying.symm.trans flying
  next g before =>
    split at flying
    next cut =>
      cases before.symm.trans flying
      exact cut
    · dsimp only at flying
      split at flying
      · have phase := congrArg (Option.map (·.phase)) flying
        rw [withdrawMoves_phase] at phase
        exact (Option.some.inj phase).symm
      · cases flying
        rfl

theorem breakRoutes_held (c : Cause) (l : List Nat) (s : State) :
    (l.foldl (State.breakRoute c) s).held = s.held.filter (fun r => r ∉ l) := by
  induction l generalizing s with
  | nil => simp
  | cons r l ih =>
    have one : (s.breakRoute c r).held = s.held.filter (· ≠ r) := rfl
    rw [List.foldl_cons, ih, one, List.filter_filter]
    refine List.filter_congr fun x _ => ?_
    by_cases here : x = r <;> simp [here]

theorem breakRoutes_engine (c : Cause) (l : List Nat) (s : State) : (l.foldl (State.breakRoute c) s).engine = s.engine :=
  foldl_keeps (·.engine) l s

/-- The Plan Queue is emptied of what waited (R78). -/
def State.emptied (s : State) : State :=
  { s.engine.waiting.foldl withdrawAll s with engine := { (s.engine.waiting.foldl withdrawAll s).engine with waiting := [] } }

/-- The plan in flight is cut and every held route broken (R78). -/
def State.broken (s : State) : State := s.cutFlight.held.foldl (State.breakRoute .safe) s.cutFlight

/-- The run ends and INHIBIT is asserted (R78, R92). -/
def State.inhibited (s : State) : State := ({ s with guard := { s.guard with safeHold := true, releaseEnd := none } } : State).endRun "SAFE"

theorem makeSafe_eq (s : State) : s.makeSafe = s.inhibited.emptied.broken.placePlan
    ⟨s.inhibited.emptied.broken.engine.nextId, .safe, none, [], [], none, some .p1⟩ := rfl

theorem broken_work (s : State) : Work s s.broken :=
  (cutFlight_work s).trans (foldl_work (fun t r => breakRoute_work t .safe r) _ _)

/-- What SAFE leaves is its own plan, behind a cut one at most. -/
theorem makeSafe_safeWork (s : State) : s.makeSafe.safeWork s.inhibited.timers := by
  have work := broken_work s.inhibited.emptied
  have withdrawn := foldl_work withdrawAll_work s.inhibited.engine.waiting s.inhibited
  rw [makeSafe_eq]
  refine ⟨?_, ?_, ?_, fun p mem => ?_, fun f flying => .inr ?_⟩
  · exact work.seq.trans (withdrawn.seq.trans (endRun_seq _ _))
  · exact (breakRoutes_held _ _ _).trans (List.filter_eq_nil_iff.mpr fun r mem => by simp [mem])
  · exact work.timers.trans withdrawn.timers
  · have queue : s.inhibited.emptied.broken.engine.waiting = [] := work.waiting
    have same : p = ⟨s.inhibited.emptied.broken.engine.nextId, .safe, none, [], [], none, some .p1⟩ := by simpa [State.placePlan, queue] using mem
    exact same ▸ ⟨rfl, rfl⟩
  · have cut : s.inhibited.emptied.cutFlight.engine.flight = some f :=
      (congrArg Engine.flight (breakRoutes_engine .safe _ s.inhibited.emptied.cutFlight)).symm.trans flying
    exact cutFlight_phase cut

/-- A reply is no work. -/
theorem reply_safeWork {s : State} {u : Timers} (v : Via) (r : Reply) (work : s.safeWork u) : (s.reply v r).safeWork u := by
  cases v with
  | addressed => exact ⟨work.idle, work.held, work.timers, work.waiting, work.flight⟩
  | broadcast => exact work

/-- What a reply keeps is a matter of what was kept. -/
theorem reply_kept_congr {s t : State} (v : Via) (r : Reply) (same : t.kept = s.kept) : (t.reply v r).kept = (s.reply v r).kept := by
  cases v with
  | addressed => exact congrArg (fun k : Kept => { k with link := { k.link with replies := k.link.replies ++ [r] } }) same
  | broadcast => exact same

/-- Settles O30: SAFE leaves nothing but its own work, and every instant after it leaves it so. -/
theorem safeClearsAllWork : Obligations.SafeClearsAllWork := by
  intro s via takes
  have row : exec (.safe via) s = .next (s.makeSafe.reply via (.ok [])).settled :=
    congrArg _ (receive_settled (c := .safe via) (cmd := answerOf (.safe via)) takes rfl)
  have work := settled_safeWork (reply_safeWork via (.ok []) (makeSafe_safeWork s))
  refine ⟨_, row, (settled_kept _).trans (reply_kept_congr via (.ok []) (makeSafe_kept s)), work.idle, work.held, fun armed => ?_,
    fun p mem => (work.waiting p mem).1, fun f flying => (work.flight f flying).imp And.left id⟩
  rw [work.timers]
  exact endRun_timers (s := { s with guard := { s.guard with safeHold := true, releaseEnd := none } }) "SAFE" armed

end Sys2Proof.Machine
end
